-- ==== Sys2Proof/Word.lean ====
section
/-! DEFINITION. The word types of the BGFU (00_scope.md R12): the widths are the spec's own. -/

namespace Sys2Proof

/-- A GF(32) element, one 5-bit symbol (10_state.md R31, 40_gf32.md R150). -/
abbrev Sym := BitVec 5

/-- A GF(1024) element: low coordinate c0 in bits 4:0, high coordinate c1 in bits 9:5 (41_gf1024.md R180). -/
abbrev Ext := BitVec 10

/-- A 32-bit integer, descriptor, command word or host word (00_scope.md R12). -/
abbrev Word := BitVec 32

/-- The packed 30-bit LFSR midstate (10_state.md R41, 43_lfsr_checksum.md R242). -/
abbrev Midstate := BitVec 30

/-- A 3-bit index of one of the eight registers of a file; all eight are valid (30_encoding.md R115). -/
abbrev RegIdx := BitVec 3

end Sys2Proof
end

