-- ==== Sys2Proof/Syntax.lean ====
section
/-! DEFINITION. The 45 commands, one constructor per row of the opcode map (30_encoding.md R117), in its order.
A field holds only the bits the row uses (R113); which register file an index names is the command's own (R115). -/

namespace Sys2Proof

inductive Instr where
  /-- HALT, stop the sequencer (45_sequencer_data.md R300). -/
  | halt
  /-- NOP (45_sequencer_data.md R301). -/
  | nop
  /-- BC cond, target: conditional branch to an absolute CM index (45_sequencer_data.md R302). -/
  | bc (cond : BitVec 4) (target : BitVec 16)
  /-- DBNZ nd, target: decrement and branch if nonzero (45_sequencer_data.md R303). -/
  | dbnz (rd : RegIdx) (target : BitVec 16)
  /-- LIB bd, imm (40_gf32.md R155). -/
  | lib (rd : RegIdx) (imm : BitVec 5)
  /-- ADDB bd, ba, bb (40_gf32.md R156). -/
  | addb (rd : RegIdx) (ra : RegIdx) (rb : RegIdx)
  /-- MULB bd, ba, bb (40_gf32.md R157). -/
  | mulb (rd : RegIdx) (ra : RegIdx) (rb : RegIdx)
  /-- INVB bd, ba (40_gf32.md R158). -/
  | invb (rd : RegIdx) (ra : RegIdx)
  /-- POWB bd, ba, nb (40_gf32.md R159). -/
  | powb (rd : RegIdx) (ra : RegIdx) (rb : RegIdx)
  /-- NEGB bd, ba (40_gf32.md R160). -/
  | negb (rd : RegIdx) (ra : RegIdx)
  /-- LIE ed, imm (41_gf1024.md R188). -/
  | lie (rd : RegIdx) (imm : BitVec 10)
  /-- ADDE ed, ea, eb (41_gf1024.md R189). -/
  | adde (rd : RegIdx) (ra : RegIdx) (rb : RegIdx)
  /-- MULE ed, ea, eb (41_gf1024.md R190). -/
  | mule (rd : RegIdx) (ra : RegIdx) (rb : RegIdx)
  /-- INVE ed, ea (41_gf1024.md R191). -/
  | inve (rd : RegIdx) (ra : RegIdx)
  /-- POWE ed, ea, nb (41_gf1024.md R192). -/
  | powe (rd : RegIdx) (ra : RegIdx) (rb : RegIdx)
  /-- NEGE ed, ea (41_gf1024.md R193). -/
  | nege (rd : RegIdx) (ra : RegIdx)
  /-- EMB ed, ba (41_gf1024.md R194). -/
  | emb (rd : RegIdx) (ra : RegIdx)
  /-- PRJ bd, ea (41_gf1024.md R195). -/
  | prj (rd : RegIdx) (ra : RegIdx)
  /-- LIN nd, imm (45_sequencer_data.md R304). -/
  | lin (rd : RegIdx) (imm : BitVec 16)
  /-- LHN nd, imm (45_sequencer_data.md R305). -/
  | lhn (rd : RegIdx) (imm : BitVec 16)
  /-- NADDI nd, na, simm (45_sequencer_data.md R306). -/
  | naddi (rd : RegIdx) (ra : RegIdx) (imm : BitVec 16)
  /-- LDS bd, imm(na) (45_sequencer_data.md R307). -/
  | lds (rd : RegIdx) (ra : RegIdx) (imm : BitVec 16)
  /-- STS bd, imm(na); rd names the source (45_sequencer_data.md R308). -/
  | sts (rd : RegIdx) (ra : RegIdx) (imm : BitVec 16)
  /-- LDX ed, imm(na) (45_sequencer_data.md R309). -/
  | ldx (rd : RegIdx) (ra : RegIdx) (imm : BitVec 16)
  /-- STX ed, imm(na); rd names the source (45_sequencer_data.md R310). -/
  | stx (rd : RegIdx) (ra : RegIdx) (imm : BitVec 16)
  /-- PEMB nd, na: SM polynomial embedded into XM (42_polynomial.md R213). -/
  | pemb (rd : RegIdx) (ra : RegIdx)
  /-- PEVB ed, na, eb (42_polynomial.md R214). -/
  | pevb (rd : RegIdx) (ra : RegIdx) (rb : RegIdx)
  /-- PEVE ed, na, eb (42_polynomial.md R215). -/
  | peve (rd : RegIdx) (ra : RegIdx) (rb : RegIdx)
  /-- PMUL nd, na, nb (42_polynomial.md R216). -/
  | pmul (rd : RegIdx) (ra : RegIdx) (rb : RegIdx)
  /-- PMULX nd, na, nb, d (42_polynomial.md R217). -/
  | pmulx (rd : RegIdx) (ra : RegIdx) (rb : RegIdx) (imm : BitVec 16)
  /-- PREM nd, na, nb (42_polynomial.md R218). -/
  | prem (rd : RegIdx) (ra : RegIdx) (rb : RegIdx)
  /-- PDER nd, na (42_polynomial.md R219). -/
  | pder (rd : RegIdx) (ra : RegIdx)
  /-- SETV v; v = 3 is illegal (43_lfsr_checksum.md R245). -/
  | setv (variant : BitVec 2)
  /-- LRST (43_lfsr_checksum.md R246). -/
  | lrst
  /-- LFB ba (43_lfsr_checksum.md R247). -/
  | lfb (ra : RegIdx)
  /-- LFM na (43_lfsr_checksum.md R248). -/
  | lfm (ra : RegIdx)
  /-- LCHK nd (43_lfsr_checksum.md R249). -/
  | lchk (rd : RegIdx)
  /-- LVER (43_lfsr_checksum.md R250). -/
  | lver
  /-- LRES nd (43_lfsr_checksum.md R251). -/
  | lres (rd : RegIdx)
  /-- SYND nd (44_correction.md R272). -/
  | synd (rd : RegIdx)
  /-- LOC nd, na (44_correction.md R274). -/
  | loc (rd : RegIdx) (ra : RegIdx)
  /-- ROOTS nd, na, nb (44_correction.md R276). -/
  | roots (rd : RegIdx) (ra : RegIdx) (rb : RegIdx)
  /-- FORNEY nd, na, nb, nc (44_correction.md R278). -/
  | forney (rd : RegIdx) (ra : RegIdx) (rb : RegIdx) (rc : RegIdx)
  /-- CORR nd, na (44_correction.md R280). -/
  | corr (rd : RegIdx) (ra : RegIdx)
  /-- SELFT (43_lfsr_checksum.md R253). -/
  | selft
  deriving DecidableEq, Repr

end Sys2Proof
end

