-- ==== Sys2Proof/WellFormed.lean ====
section
/-! DEFINITION. Well-formed commands: the two value checks of 30_encoding.md R118 (3 and 4). Every other
must-be-zero bit (R113) has no place in an Instr, so it needs no check. -/

namespace Sys2Proof

/-- BC's condition is below 5 and SETV's variant is not 3 (30_encoding.md R118); every other command is
well formed with any fields (R115: all eight indices are valid in every field). -/
def Instr.wellFormed : Instr → Bool
  | .bc cond _ => cond.toNat < 5
  | .setv v => v != 3#2
  | _ => true

end Sys2Proof
end

