-- ==== Sys2Proof/Decode.lean ====
section
/-! DEFINITION. The decoder of 30_encoding.md R123, total on 32-bit words and refusing by name (R118), then the
encoder, both written from the table of R117 and the field positions of R111. -/

namespace Sys2Proof

/-- Why a word is illegal: the four cases of 30_encoding.md R118, in its order. -/
inductive Illegal where
  /-- Case 1: OP is in no row of R117. -/
  | reservedOpcode
  /-- Case 2: a must-be-zero bit is set, (w AND mask) differs from match. -/
  | mustBeZero
  /-- Case 3: BC with cond >= 5. -/
  | reservedCondition
  /-- Case 4: SETV with w[1:0] = 3. -/
  | reservedVariant
  deriving DecidableEq, Repr

/-- w[31:26] (30_encoding.md R111). -/
def opField (w : Word) : BitVec 6 := w.extractLsb' 26 6
/-- w[25:23] (R111). -/
def rdField (w : Word) : RegIdx := w.extractLsb' 23 3
/-- w[22:20] (R111). -/
def raField (w : Word) : RegIdx := w.extractLsb' 20 3
/-- w[19:17] (R111). -/
def rbField (w : Word) : RegIdx := w.extractLsb' 17 3
/-- w[16:14] (R111). -/
def rcField (w : Word) : RegIdx := w.extractLsb' 14 3
/-- w[25:22], BC only (R111). -/
def condField (w : Word) : BitVec 4 := w.extractLsb' 22 4
/-- w[15:0] (R111). -/
def imm16Field (w : Word) : BitVec 16 := w.extractLsb' 0 16

/-- One row of R117: the word spells the row's command iff (w AND mask) = match (R113). -/
def row (w mask pattern : Word) (i : Instr) : Except Illegal Instr :=
  if w &&& mask = pattern then .ok i else .error .mustBeZero

/-- The decode procedure (30_encoding.md R123): the row of OP, its mask and match, then the value checks. -/
def decode (w : Word) : Except Illegal Instr :=
  match opField w with
  | 0x01#6 => row w 0xFFFFFFFF#32 0x04000000#32 .halt
  | 0x02#6 => row w 0xFFFFFFFF#32 0x08000000#32 .nop
  | 0x03#6 =>
    match row w 0xFC3F0000#32 0x0C000000#32 (.bc (condField w) (imm16Field w)) with
    | .ok i => if i.wellFormed then .ok i else .error .reservedCondition
    | .error e => .error e
  | 0x04#6 => row w 0xFC7F0000#32 0x10000000#32 (.dbnz (rdField w) (imm16Field w))
  | 0x08#6 => row w 0xFC7FFFE0#32 0x20000000#32 (.lib (rdField w) (w.extractLsb' 0 5))
  | 0x09#6 => row w 0xFC01FFFF#32 0x24000000#32 (.addb (rdField w) (raField w) (rbField w))
  | 0x0A#6 => row w 0xFC01FFFF#32 0x28000000#32 (.mulb (rdField w) (raField w) (rbField w))
  | 0x0B#6 => row w 0xFC0FFFFF#32 0x2C000000#32 (.invb (rdField w) (raField w))
  | 0x0C#6 => row w 0xFC01FFFF#32 0x30000000#32 (.powb (rdField w) (raField w) (rbField w))
  | 0x0D#6 => row w 0xFC0FFFFF#32 0x34000000#32 (.negb (rdField w) (raField w))
  | 0x10#6 => row w 0xFC7FFC00#32 0x40000000#32 (.lie (rdField w) (w.extractLsb' 0 10))
  | 0x11#6 => row w 0xFC01FFFF#32 0x44000000#32 (.adde (rdField w) (raField w) (rbField w))
  | 0x12#6 => row w 0xFC01FFFF#32 0x48000000#32 (.mule (rdField w) (raField w) (rbField w))
  | 0x13#6 => row w 0xFC0FFFFF#32 0x4C000000#32 (.inve (rdField w) (raField w))
  | 0x14#6 => row w 0xFC01FFFF#32 0x50000000#32 (.powe (rdField w) (raField w) (rbField w))
  | 0x15#6 => row w 0xFC0FFFFF#32 0x54000000#32 (.nege (rdField w) (raField w))
  | 0x16#6 => row w 0xFC0FFFFF#32 0x58000000#32 (.emb (rdField w) (raField w))
  | 0x17#6 => row w 0xFC0FFFFF#32 0x5C000000#32 (.prj (rdField w) (raField w))
  | 0x18#6 => row w 0xFC7F0000#32 0x60000000#32 (.lin (rdField w) (imm16Field w))
  | 0x19#6 => row w 0xFC7F0000#32 0x64000000#32 (.lhn (rdField w) (imm16Field w))
  | 0x1A#6 => row w 0xFC0F0000#32 0x68000000#32 (.naddi (rdField w) (raField w) (imm16Field w))
  | 0x1C#6 => row w 0xFC0F0000#32 0x70000000#32 (.lds (rdField w) (raField w) (imm16Field w))
  | 0x1D#6 => row w 0xFC0F0000#32 0x74000000#32 (.sts (rdField w) (raField w) (imm16Field w))
  | 0x1E#6 => row w 0xFC0F0000#32 0x78000000#32 (.ldx (rdField w) (raField w) (imm16Field w))
  | 0x1F#6 => row w 0xFC0F0000#32 0x7C000000#32 (.stx (rdField w) (raField w) (imm16Field w))
  | 0x20#6 => row w 0xFC0FFFFF#32 0x80000000#32 (.pemb (rdField w) (raField w))
  | 0x21#6 => row w 0xFC01FFFF#32 0x84000000#32 (.pevb (rdField w) (raField w) (rbField w))
  | 0x22#6 => row w 0xFC01FFFF#32 0x88000000#32 (.peve (rdField w) (raField w) (rbField w))
  | 0x23#6 => row w 0xFC01FFFF#32 0x8C000000#32 (.pmul (rdField w) (raField w) (rbField w))
  | 0x24#6 => row w 0xFC010000#32 0x90000000#32 (.pmulx (rdField w) (raField w) (rbField w) (imm16Field w))
  | 0x25#6 => row w 0xFC01FFFF#32 0x94000000#32 (.prem (rdField w) (raField w) (rbField w))
  | 0x26#6 => row w 0xFC0FFFFF#32 0x98000000#32 (.pder (rdField w) (raField w))
  | 0x28#6 =>
    match row w 0xFFFFFFFC#32 0xA0000000#32 (.setv (w.extractLsb' 0 2)) with
    | .ok i => if i.wellFormed then .ok i else .error .reservedVariant
    | .error e => .error e
  | 0x29#6 => row w 0xFFFFFFFF#32 0xA4000000#32 .lrst
  | 0x2A#6 => row w 0xFF8FFFFF#32 0xA8000000#32 (.lfb (raField w))
  | 0x2B#6 => row w 0xFF8FFFFF#32 0xAC000000#32 (.lfm (raField w))
  | 0x2C#6 => row w 0xFC7FFFFF#32 0xB0000000#32 (.lchk (rdField w))
  | 0x2D#6 => row w 0xFFFFFFFF#32 0xB4000000#32 .lver
  | 0x2E#6 => row w 0xFC7FFFFF#32 0xB8000000#32 (.lres (rdField w))
  | 0x30#6 => row w 0xFC7FFFFF#32 0xC0000000#32 (.synd (rdField w))
  | 0x31#6 => row w 0xFC0FFFFF#32 0xC4000000#32 (.loc (rdField w) (raField w))
  | 0x32#6 => row w 0xFC01FFFF#32 0xC8000000#32 (.roots (rdField w) (raField w) (rbField w))
  | 0x33#6 => row w 0xFC003FFF#32 0xCC000000#32 (.forney (rdField w) (raField w) (rbField w) (rcField w))
  | 0x34#6 => row w 0xFC0FFFFF#32 0xD0000000#32 (.corr (rdField w) (raField w))
  | 0x35#6 => row w 0xFFFFFFFF#32 0xD4000000#32 .selft
  | _ => .error .reservedOpcode

/-- Format F0 (30_encoding.md R112). -/
def encF0 (op : BitVec 6) : Word := op ++ 0#26
/-- Format FR (R112), unused register fields 0. -/
def encFR (op : BitVec 6) (rd ra rb : RegIdx) : Word := op ++ rd ++ ra ++ rb ++ 0#17
/-- Format FR4 (R112). -/
def encFR4 (op : BitVec 6) (rd ra rb rc : RegIdx) : Word := op ++ rd ++ ra ++ rb ++ rc ++ 0#14
/-- Format FI (R112). -/
def encFI (op : BitVec 6) (rd : RegIdx) (imm : BitVec 16) : Word := op ++ rd ++ 0#7 ++ imm
/-- Format FRI (R112). -/
def encFRI (op : BitVec 6) (rd ra : RegIdx) (imm : BitVec 16) : Word := op ++ rd ++ ra ++ 0#4 ++ imm
/-- Format FRRI (R112). -/
def encFRRI (op : BitVec 6) (rd ra rb : RegIdx) (imm : BitVec 16) : Word := op ++ rd ++ ra ++ rb ++ 0#1 ++ imm
/-- Format FB (R112). -/
def encFB (op : BitVec 6) (cond : BitVec 4) (imm : BitVec 16) : Word := op ++ cond ++ 0#6 ++ imm

/-- The command word of an instruction: its format and opcode of 30_encoding.md R117, its fields of R111. -/
def encode : Instr → Word
  | .halt => encF0 0x01#6
  | .nop => encF0 0x02#6
  | .bc cond target => encFB 0x03#6 cond target
  | .dbnz rd target => encFI 0x04#6 rd target
  | .lib rd imm => encFI 0x08#6 rd (imm.setWidth 16)
  | .addb rd ra rb => encFR 0x09#6 rd ra rb
  | .mulb rd ra rb => encFR 0x0A#6 rd ra rb
  | .invb rd ra => encFR 0x0B#6 rd ra 0#3
  | .powb rd ra rb => encFR 0x0C#6 rd ra rb
  | .negb rd ra => encFR 0x0D#6 rd ra 0#3
  | .lie rd imm => encFI 0x10#6 rd (imm.setWidth 16)
  | .adde rd ra rb => encFR 0x11#6 rd ra rb
  | .mule rd ra rb => encFR 0x12#6 rd ra rb
  | .inve rd ra => encFR 0x13#6 rd ra 0#3
  | .powe rd ra rb => encFR 0x14#6 rd ra rb
  | .nege rd ra => encFR 0x15#6 rd ra 0#3
  | .emb rd ra => encFR 0x16#6 rd ra 0#3
  | .prj rd ra => encFR 0x17#6 rd ra 0#3
  | .lin rd imm => encFI 0x18#6 rd imm
  | .lhn rd imm => encFI 0x19#6 rd imm
  | .naddi rd ra imm => encFRI 0x1A#6 rd ra imm
  | .lds rd ra imm => encFRI 0x1C#6 rd ra imm
  | .sts rd ra imm => encFRI 0x1D#6 rd ra imm
  | .ldx rd ra imm => encFRI 0x1E#6 rd ra imm
  | .stx rd ra imm => encFRI 0x1F#6 rd ra imm
  | .pemb rd ra => encFR 0x20#6 rd ra 0#3
  | .pevb rd ra rb => encFR 0x21#6 rd ra rb
  | .peve rd ra rb => encFR 0x22#6 rd ra rb
  | .pmul rd ra rb => encFR 0x23#6 rd ra rb
  | .pmulx rd ra rb imm => encFRRI 0x24#6 rd ra rb imm
  | .prem rd ra rb => encFR 0x25#6 rd ra rb
  | .pder rd ra => encFR 0x26#6 rd ra 0#3
  | .setv v => encFI 0x28#6 0#3 (v.setWidth 16)
  | .lrst => encF0 0x29#6
  | .lfb ra => encFR 0x2A#6 0#3 ra 0#3
  | .lfm ra => encFR 0x2B#6 0#3 ra 0#3
  | .lchk rd => encFR 0x2C#6 rd 0#3 0#3
  | .lver => encF0 0x2D#6
  | .lres rd => encFR 0x2E#6 rd 0#3 0#3
  | .synd rd => encFR 0x30#6 rd 0#3 0#3
  | .loc rd ra => encFR 0x31#6 rd ra 0#3
  | .roots rd ra rb => encFR 0x32#6 rd ra rb
  | .forney rd ra rb rc => encFR4 0x33#6 rd ra rb rc
  | .corr rd ra => encFR 0x34#6 rd ra 0#3
  | .selft => encF0 0x35#6

/-- The instruction the decoder reads from a command word given as a number, bit 0 its least significant bit
(every row of the table has 32 bits; bits at and above nbits are 0). -/
def decodeTableWord (nbits w : Nat) : Option Instr :=
  match decode (BitVec.ofNat 32 (w % 2 ^ nbits)) with
  | .ok i => some i
  | .error _ => none

end Sys2Proof
end

