-- ==== Sys2Proof/Config.lean ====
section
/-! DEFINITION. What an implementation fixes (the memory sizes, 00_scope.md R10, log 17) and the free values:
opaque constants with no body, so no proof can use their value. -/

namespace Sys2Proof

/-- SM_SIZE, words of symbol memory (00_scope.md R10). -/
abbrev Config.smSize : Nat := 1024

/-- XM_SIZE, words of extension memory (00_scope.md R10). -/
abbrev Config.xmSize : Nat := 64

/-- CM_SIZE, words of command memory (00_scope.md R10). -/
abbrev Config.cmSize : Nat := 256

/-- FREE VALUE (log 7): what the k-th host read of a register or memory word other than ID, CTRL and STATUS
returns while BUSY = 1 (20_memory.md R77, 93_implementation_defined.md U2). The read takes its low bits, as many as the
register is wide. -/
opaque Config.busyReadValue : Nat → Word

end Sys2Proof
end

