-- ==== Sys2Proof/Machine/State.lean ====
section
/-! DEFINITION. The state of the BGFU (10_state.md) as plain data, the reasons a step can stop, and the state after
a hard reset (10_state.md R56, 70_reset_and_hazards.md R380). -/

namespace Sys2Proof.Machine

/-- The checksum variants, the legal values of VAR: "a closed set of variants" (00_scope.md R3, 10_state.md R40). -/
inductive Variant where
  /-- VAR = 0. -/
  | noChecksum
  /-- VAR = 1, BIP-173. -/
  | bech32
  /-- VAR = 2, BIP-350. -/
  | bech32m
  deriving DecidableEq, Repr

/-- The values RC takes; 5 to 15 are never written (10_state.md R42). -/
inductive ResultCode where
  | ok
  | invalidChecksum
  | uncorrectable
  | degenerateInput
  /-- Never produced by this unit (43_lfsr_checksum.md R253, 93_implementation_defined.md U10). -/
  | specInconsistent
  deriving DecidableEq, Repr

/-- The unit's faults (60_exceptions.md R340). Taking one is a next state (R345), never a stop of the model. -/
inductive FaultCode where
  | illegalCommand
  | fetchRange
  | smRange
  | xmRange
  | divZero
  | notInBase
  | variant
  | argRange
  | aborted
  deriving DecidableEq, Repr

/-- What happens next outside the sequencer, or that the sequencer moves next. The host's accesses take effect in
its program order, one at a time (20_memory.md R89), between commands (R85); log 5. -/
inductive HostEvent where
  /-- The sequencer takes its next step. -/
  | wait
  /-- A window read at a byte offset, of a size in bytes (20_memory.md R70, R72). -/
  | read (offset : BitVec 16) (size : Nat)
  /-- A window write at a byte offset, of a size in bytes (20_memory.md R70, R72). -/
  | write (offset : BitVec 16) (size : Nat) (value : Word)
  /-- The platform drives the hard-reset input (70_reset_and_hazards.md R380). -/
  | hardReset
  deriving DecidableEq, Repr

/-- There is no fault: every trap the spec describes stops the sequencer and is a next state (60_exceptions.md R345),
so no step of this model ends in Host.Outcome.fault (log 12). -/
inductive Fault where
  deriving DecidableEq, Repr

/-- The ways a step can have no meaning. -/
inductive Refusal where
  /-- Raised by exec's arm of an instruction without a meaning yet; no arm uses it now. Safe: nothing is claimed. -/
  | notModelled (mnemonic : String)
  /-- Raised when a command (LDS, PEMB, PEVB, LFM, CORR) or a host read of an idle unit needs SM[addr] and nothing has written it since
  reset (10_state.md R57, 93_implementation_defined.md U1; log 2). Safe: the chip goes on with some pattern. -/
  | unwrittenSymbol (addr : Nat)
  /-- As unwrittenSymbol, for XM[addr]: raised by LDX, PEVE, PMUL, PMULX, PREM, PDER, LOC, ROOTS, FORNEY and the host's
  read of an idle unit (10_state.md R57; log 2). Safe. -/
  | unwrittenExtension (addr : Nat)
  /-- As unwrittenSymbol, for CM[addr]: raised by the command fetch and the host's read of an idle unit (10_state.md
  R57; log 2). Safe. -/
  | unwrittenCommand (addr : Nat)
  /-- Raised by a host access that is misaligned or not 32 bits wide, a host-duty violation the model gives no meaning
  (20_memory.md R72, 93_implementation_defined.md U4; log 10). Safe: the chip ignores the write or returns some value. -/
  | hostAccessShape (offset : BitVec 16) (size : Nat)
  deriving DecidableEq, Repr

/-- A word-addressed memory (20_memory.md R80): (index, word) pairs, indices strictly rising; an index that is not
listed has not been written since reset and reads as nothing (10_state.md R57; logs 2 and 4). -/
abbrev Memory (w : Nat) := List (Nat × BitVec w)

/-- The state the spec gives the unit, then three fields of the model's own. -/
structure State where
  /-- B0..B7 (10_state.md R31). -/
  b : Vector Sym 8
  /-- E0..E7 (R32). -/
  e : Vector Ext 8
  /-- N0..N7 (R33). -/
  n : Vector Word 8
  /-- SM (R54). -/
  sm : Memory 5
  /-- XM (R54). -/
  xm : Memory 10
  /-- CM (R54). -/
  cm : Memory 32
  /-- PC, the CM index of the command that executes (R35). -/
  pc : BitVec 16
  /-- FLAGS.Z (R37). -/
  z : Bool
  /-- FLAGS.V (R38). -/
  v : Bool
  /-- VAR (R40). -/
  var : Variant
  /-- MID (R41). -/
  mid : Midstate
  /-- RC (R42). -/
  rc : ResultCode
  /-- CNT (R43). -/
  cnt : Word
  /-- ECODE, 0 for no fault (R44). -/
  ecode : BitVec 8
  /-- EPC (R45). -/
  epc : BitVec 16
  /-- EINFO (R46). -/
  einfo : Word
  /-- CTRL.IE (R47). -/
  ie : Bool
  /-- STATUS.BUSY, the run state (R48, R52). -/
  busy : Bool
  /-- STATUS.DONE (R48). -/
  done : Bool
  /-- STATUS.ERR (R48). -/
  err : Bool
  /-- STATUS.WERR (R48). -/
  werr : Bool
  /-- STOP_REQ (R51). -/
  stopReq : Bool
  /-- MODEL's own (log 5): the events still to come; when empty the sequencer moves. -/
  host : List HostEvent
  /-- MODEL's own (log 5): the value the host's last read returned. -/
  hostData : Word
  /-- MODEL's own (log 7): how many free values have been drawn. -/
  draws : Nat
  deriving DecidableEq, Repr

/-- The state after a hard reset (10_state.md R56). B, E and N are unspecified there: 0 here (DESIGN CHOICE, unsafe,
log 1); no memory word is written (log 2); host, hostData and draws are the model's own (logs 5 and 7). -/
def State.reset : State where
  b := Vector.replicate 8 0#5
  e := Vector.replicate 8 0#10
  n := Vector.replicate 8 0#32
  sm := []
  xm := []
  cm := []
  pc := 0x0000#16
  z := false
  v := false
  var := .bech32
  mid := 0x00000001#30
  rc := .ok
  cnt := 0#32
  ecode := 0#8
  epc := 0#16
  einfo := 0#32
  ie := false
  busy := false
  done := false
  err := false
  werr := false
  stopReq := false
  host := []
  hostData := 0#32
  draws := 0

end Sys2Proof.Machine
end

