-- ==== Sys2Proof/Machine/Ops.lean ====
section
/-! DEFINITION. The named operations over memory and registers, taking a fault (60_exceptions.md R345), and the way a
command's body ends (00_scope.md R21: a raise cancels every write of its command). -/

namespace Sys2Proof.Machine

/-! ## Memories (20_memory.md R80) -/

/-- The word at index a, none if nothing has written it since reset (10_state.md R57). -/
def Memory.read? {w : Nat} : Memory w → Nat → Option (BitVec w)
  | [], _ => none
  | (k, x) :: rest, a => if k = a then some x else Memory.read? rest a

/-- Write one whole word, keeping the indices strictly rising (20_memory.md R85). -/
def Memory.write {w : Nat} : Memory w → Nat → BitVec w → Memory w
  | [], a, x => [(a, x)]
  | (k, y) :: rest, a, x =>
    if a < k then (a, x) :: (k, y) :: rest
    else if a = k then (a, x) :: rest
    else (k, y) :: Memory.write rest a x

/-- Write the words of a list at base, base + 1, ... (20_memory.md R83). -/
def Memory.writeList {w : Nat} : Memory w → Nat → List (BitVec w) → Memory w
  | m, _, [] => m
  | m, base, x :: xs => Memory.writeList (m.write base x) (base + 1) xs

/-- The canonical form: indices strictly rising (log 4). -/
abbrev Memory.wf {w : Nat} (m : Memory w) : Prop := m.Pairwise (fun p q => p.1 < q.1)

/-- Every listed index is below the memory's size (20_memory.md R80). -/
abbrev Memory.below {w : Nat} (m : Memory w) (size : Nat) : Prop := ∀ p ∈ m, p.1 < size

/-! ## Registers (00_scope.md R13) -/

/-- B[i]. -/
def State.getB (s : State) (i : RegIdx) : Sym := s.b[i.toNat]'i.isLt
/-- E[i]. -/
def State.getE (s : State) (i : RegIdx) : Ext := s.e[i.toNat]'i.isLt
/-- N[i]. -/
def State.getN (s : State) (i : RegIdx) : Word := s.n[i.toNat]'i.isLt
/-- B[i] <- x. -/
def State.setB (s : State) (i : RegIdx) (x : Sym) : State := { s with b := s.b.set i.toNat x i.isLt }
/-- E[i] <- x. -/
def State.setE (s : State) (i : RegIdx) (x : Ext) : State := { s with e := s.e.set i.toNat x i.isLt }
/-- N[i] <- x. -/
def State.setN (s : State) (i : RegIdx) (x : Word) : State := { s with n := s.n.set i.toNat x i.isLt }
/-- Z <- x (10_state.md R37). -/
def State.setZ (s : State) (x : Bool) : State := { s with z := x }
/-- RC <- r and V <- (r = OK), the only way V and RC are written by a command (10_state.md R38, R42). -/
def State.setResult (s : State) (r : ResultCode) : State := { s with rc := r, v := r == .ok }
/-- SM[a] <- x (00_scope.md R14). -/
def State.setSm (s : State) (a : Nat) (x : Sym) : State := { s with sm := s.sm.write a x }
/-- XM[a] <- x (00_scope.md R14). -/
def State.setXm (s : State) (a : Nat) (x : Ext) : State := { s with xm := s.xm.write a x }
/-- SM[base], SM[base + 1], ... <- the words of a list (43_lfsr_checksum.md R249). -/
def State.setSmList (s : State) (base : Nat) (xs : List Sym) : State := { s with sm := s.sm.writeList base xs }
/-- XM[base], XM[base + 1], ... <- the words of a list (20_memory.md R83). -/
def State.setXmList (s : State) (base : Nat) (xs : List Ext) : State := { s with xm := s.xm.writeList base xs }
/-- CM[a] <- x, which only the host does (10_state.md R54). -/
def State.setCm (s : State) (a : Nat) (x : Word) : State := { s with cm := s.cm.write a x }
/-- VAR <- x (10_state.md R40). -/
def State.setVar (s : State) (x : Variant) : State := { s with var := x }
/-- MID <- m. -/
def State.setMid (s : State) (m : Midstate) : State := { s with mid := m }
/-- CNT <- c. -/
def State.setCnt (s : State) (c : Word) : State := { s with cnt := c }
/-- pc <- target (00_scope.md R13). -/
def State.jump (s : State) (target : BitVec 16) : State := { s with pc := target }
/-- PC <- (PC + 1) mod 2^16 (10_state.md R36). -/
def State.advance (s : State) : State := { s with pc := s.pc + 1#16 }

/-! ## Codes -/

/-- The number of a fault in ECODE (60_exceptions.md R340). -/
def faultNumber : FaultCode → BitVec 8
  | .illegalCommand => 1#8
  | .fetchRange => 2#8
  | .smRange => 3#8
  | .xmRange => 4#8
  | .divZero => 5#8
  | .notInBase => 6#8
  | .variant => 7#8
  | .argRange => 8#8
  | .aborted => 9#8

/-- The number of a result code in RC (10_state.md R42). -/
def resultNumber : ResultCode → BitVec 4
  | .ok => 0#4
  | .invalidChecksum => 1#4
  | .uncorrectable => 2#4
  | .degenerateInput => 3#4
  | .specInconsistent => 4#4

/-- The number of a variant in VAR (10_state.md R40). -/
def variantNumber : Variant → BitVec 2
  | .noChecksum => 0#2
  | .bech32 => 1#2
  | .bech32m => 2#2

/-- The variant of a VAR number; 3 is reserved (10_state.md R40). -/
def variantOfNumber (x : BitVec 2) : Option Variant :=
  if x = 0#2 then some .noChecksum
  else if x = 1#2 then some .bech32
  else if x = 2#2 then some .bech32m
  else none

/-! ## Taking a fault, starting, stopping -/

/-- The fault procedure (60_exceptions.md R345): PC is not changed, nothing else changes. -/
def State.takeFault (s : State) (c : FaultCode) (info : Word) : State :=
  { s with ecode := faultNumber c, epc := s.pc, einfo := info, err := true, busy := false }

/-- The effect of a START write at target while idle, which is also how the host resumes after a fault: there is no
return-from-trap command (10_state.md R49, 60_exceptions.md R349). EINFO is kept, as R349 and 10_state.md R46 say, where
the row of R340 for ECODE 0 gives EINFO 0 since the last START (DESIGN CHOICE, log 20). -/
def State.start (s : State) (target : BitVec 16) : State :=
  { s with pc := target, done := false, err := false, ecode := 0#8, busy := true }

/-- HALT's effect: DONE, and the run state IDLE; PC stays (45_sequencer_data.md R300). -/
def State.halt (s : State) : State := { s with done := true, busy := false }

/-! ## A command's body -/

/-- How a command's body stops before it writes anything: a raise (00_scope.md R15), or a refusal of the model. -/
inductive Stop where
  | raise (c : FaultCode) (info : Word)
  | refuse (r : Refusal)
  deriving DecidableEq, Repr

/-- End a command that ran in state s with the body's result: its next state, or the fault it raised, taken in s
itself so that no write of the command is visible (00_scope.md R21, 60_exceptions.md R343). -/
def State.finish (s : State) : Except Stop State → Host.Outcome State Fault Refusal
  | .ok t => .next t
  | .error (.raise c info) => .next (s.takeFault c info)
  | .error (.refuse r) => .refused r

end Sys2Proof.Machine
end

