-- ==== Sys2Proof/Machine/Lfsr.lean ====
section
/-! DEFINITION. The variant-constant table (00_scope.md R11, 43_lfsr_checksum.md R240) and the LFSR checksum engine
(43_lfsr_checksum.md R241-R244). -/

namespace Sys2Proof.Machine

/-- CHECKSUM_LENGTH of Bech32 and Bech32m (00_scope.md R11). -/
def checksumLength : Nat := 6

/-- CODE_LENGTH of Bech32 and Bech32m (00_scope.md R11). -/
def codeLength : Nat := 1023

/-- GENERATOR_SH, the five taps GEN[0..4] (43_lfsr_checksum.md R241). -/
def taps : List Midstate := [0x3B6A57B2#30, 0x26508E6D#30, 0x1EA119FA#30, 0x3D4233DD#30, 0x2A1462B3#30]

/-- TARGET(VAR); none for NoChecksum, whose midstate is a unit value (00_scope.md R11, 43_lfsr_checksum.md R240). -/
def target : Variant → Option Midstate
  | .noChecksum => none
  | .bech32 => some 0x00000001#30
  | .bech32m => some 0x2BC830A3#30

/-- INIT(VAR), 0 for NoChecksum (00_scope.md R11, 43_lfsr_checksum.md R240, R246). -/
def initMidstate : Variant → Midstate
  | .noChecksum => 0x00000000#30
  | .bech32 => 0x00000001#30
  | .bech32m => 0x00000001#30

/-- Add GEN[i] for each discarded bit i that is 1, from tap i on (43_lfsr_checksum.md R241). -/
def addTaps (discarded : BitVec 5) : List Midstate → Nat → Midstate → Midstate
  | [], _, m => m
  | g :: rest, i, m => addTaps discarded rest (i + 1) (if discarded.getLsbD i then m ^^^ g else m)

/-- lfsr_step (43_lfsr_checksum.md R241). -/
def lfsrStep (m : Midstate) (v : Sym) : Midstate :=
  addTaps (m.extractLsb' 25 5) taps 0 ((m.extractLsb' 0 25 ++ 0#5) ^^^ v.setWidth 30)

/-- Feed symbols in order, one at a time (43_lfsr_checksum.md R243, R248). -/
def lfsrFeed (m : Midstate) (s : List Sym) : Midstate := s.foldl lfsrStep m

/-- The six symbols of a midstate, most significant first: r[29-5i : 25-5i] (43_lfsr_checksum.md R243). -/
def symbolsOf (r : Midstate) : List Sym :=
  [r.extractLsb' 25 5, r.extractLsb' 20 5, r.extractLsb' 15 5, r.extractLsb' 10 5, r.extractLsb' 5 5, r.extractLsb' 0 5]

/-- The checksum symbols that drive midstate m to target t (43_lfsr_checksum.md R243). -/
def checksumFrom (m t : Midstate) : List Sym :=
  symbolsOf (lfsrFeed m (List.replicate checksumLength 0#5) ^^^ t)

/-- sat32(c + k) (00_scope.md R15, 10_state.md R43). -/
def satAdd (c : Word) (k : Nat) : Word := BitVec.ofNat 32 (min (c.toNat + k) 0xFFFFFFFF)

end Sys2Proof.Machine
end

