-- ==== Sys2Proof/Machine/Flags.lean ====
section
/-! DEFINITION. How Z is computed (10_state.md R37, 92_eei_decisions.md D35, D43), and the words the host reads the
flags and status in (10_state.md R39, R47, R48). -/

namespace Sys2Proof.Machine

/-- Z of a command that produces one value. -/
def zeroOf {w : Nat} (x : BitVec w) : Bool := x == 0#w

/-- Z of a command that writes a polynomial: every element is 0, and 1 when there is none (42_polynomial.md R220). -/
def zeroOfList {w : Nat} (xs : List (BitVec w)) : Bool := xs.all (fun x => x == 0#w)

/-- FLAGS as the host reads it (10_state.md R39). -/
def State.flagsWord (s : State) : Word :=
  (BitVec.ofBool s.v ++ BitVec.ofBool s.z).setWidth 32

/-- CTRL as the host reads it: STOP and SRST read 0 (10_state.md R47). -/
def State.ctrlWord (s : State) : Word := (BitVec.ofBool s.ie).setWidth 32

/-- STATUS as the host reads it (10_state.md R48). -/
def State.statusWord (s : State) : Word :=
  (resultNumber s.rc ++ 0#2 ++ BitVec.ofBool s.v ++ BitVec.ofBool s.z ++ BitVec.ofBool s.werr ++ BitVec.ofBool s.err
    ++ BitVec.ofBool s.done ++ BitVec.ofBool s.busy).setWidth 32

/-- The level interrupt output to the host (60_exceptions.md R350). -/
def State.irq (s : State) : Bool := s.ie && (s.done || s.err)

end Sys2Proof.Machine
end

