-- ==== Sys2Proof/Machine/Operands.lean ====
section
/-! DEFINITION. Every operand form: effective addresses (20_memory.md R81), descriptors, source regions (R82) and
destination regions (R83). Every source is read in full (R84; log 3). -/

namespace Sys2Proof.Machine

/-- base = N[k][15:0] (20_memory.md R82). -/
def descBase (d : Word) : Nat := (d.extractLsb' 0 16).toNat

/-- len = N[k][31:16] (20_memory.md R82). -/
def descLen (d : Word) : Nat := (d.extractLsb' 16 16).toNat

/-- The descriptor with a new len and the old base (20_memory.md R83). -/
def descWithLen (d : Word) (len : Nat) : Word := BitVec.ofNat 16 len ++ d.extractLsb' 0 16

/-- ea = N[ra][15:0] + imm16, an unbounded integer (20_memory.md R81). -/
def State.ea (s : State) (ra : RegIdx) (imm : BitVec 16) : Nat := descBase (s.getN ra) + imm.toNat

/-- Raise c(ea) when ea is not below size (20_memory.md R81). -/
def checkAddr (c : FaultCode) (size ea : Nat) : Except Stop Unit :=
  if size ≤ ea then .error (.raise c (BitVec.ofNat 32 ea)) else .ok ()

/-- A region is valid iff it is empty or ends within the memory, else c(max(base, size)) (20_memory.md R82, R83). -/
def checkRegion (c : FaultCode) (size base len : Nat) : Except Stop Unit :=
  if len = 0 ∨ base + len ≤ size then .ok () else .error (.raise c (BitVec.ofNat 32 (max base size)))

/-- One written word, or the refusal of an unwritten one (10_state.md R57). -/
def readWord {w : Nat} (m : Memory w) (r : Nat → Refusal) (a : Nat) : Except Stop (BitVec w) :=
  match m.read? a with
  | some x => .ok x
  | none => .error (.refuse (r a))

/-- The words base, base + 1, ... of a region, in ascending order (20_memory.md R86). -/
def readWords {w : Nat} (m : Memory w) (r : Nat → Refusal) : Nat → Nat → Except Stop (List (BitVec w))
  | _, 0 => .ok []
  | base, len + 1 =>
    match readWord m r base with
    | .error e => .error e
    | .ok x =>
      match readWords m r (base + 1) len with
      | .error e => .error e
      | .ok xs => .ok (x :: xs)

/-- The range check of the SM source region of N[k] (20_memory.md R82). -/
def State.checkSm (s : State) (k : RegIdx) : Except Stop Unit :=
  checkRegion .smRange Config.smSize (descBase (s.getN k)) (descLen (s.getN k))

/-- The range check of the XM source region of N[k] (20_memory.md R82). -/
def State.checkXm (s : State) (k : RegIdx) : Except Stop Unit :=
  checkRegion .xmRange Config.xmSize (descBase (s.getN k)) (descLen (s.getN k))

/-- The words of the SM region of N[k]. -/
def State.smRegion (s : State) (k : RegIdx) : Except Stop (List Sym) :=
  readWords s.sm .unwrittenSymbol (descBase (s.getN k)) (descLen (s.getN k))

/-- The words of the XM region of N[k]. -/
def State.xmRegion (s : State) (k : RegIdx) : Except Stop (List Ext) :=
  readWords s.xm .unwrittenExtension (descBase (s.getN k)) (descLen (s.getN k))

/-- Write a polynomial result through N[k], with the flag z, and go on (20_memory.md R83): the destination check, the
words, the descriptor's new len. The old len is ignored. -/
def State.putPoly (s : State) (k : RegIdx) (xs : List Ext) (z : Bool) : Except Stop State :=
  match checkRegion .xmRange Config.xmSize (descBase (s.getN k)) xs.length with
  | .error e => .error e
  | .ok () =>
    .ok (((s.setXmList (descBase (s.getN k)) xs).setN k (descWithLen (s.getN k) xs.length)).setZ z).advance

/-- Write one B register, set Z from the value and go on (40_gf32.md, "Commands"). -/
def State.putB (s : State) (rd : RegIdx) (x : Sym) : State := ((s.setB rd x).setZ (zeroOf x)).advance

/-- Write one E register, set Z from the value and go on (41_gf1024.md, "Commands"). -/
def State.putE (s : State) (rd : RegIdx) (x : Ext) : State := ((s.setE rd x).setZ (zeroOf x)).advance

/-- Write one N register, set Z from the value and go on (45_sequencer_data.md R304-R306). -/
def State.putN (s : State) (rd : RegIdx) (x : Word) : State := ((s.setN rd x).setZ (zeroOf x)).advance

end Sys2Proof.Machine
end

