-- ==== Sys2Proof/Machine/Checksum.lean ====
section
/-! DEFINITION. The eight checksum commands (43_lfsr_checksum.md R245-R253). target s.var = none is VAR = 0. -/

namespace Sys2Proof.Machine

/-- SETV; the word with v = 3 is illegal (30_encoding.md R118), and the term takes that fault (log 13)
(43_lfsr_checksum.md R245). -/
def execSetv (v : BitVec 2) (s : State) : Host.Outcome State Fault Refusal :=
  match variantOfNumber v with
  | some x => .next ((s.setVar x).advance)
  | none => .next (s.takeFault .illegalCommand (encode (.setv v)))

/-- LRST (43_lfsr_checksum.md R246). -/
def execLrst (s : State) : Host.Outcome State Fault Refusal :=
  .next (((s.setMid (initMidstate s.var)).setCnt 0#32).advance)

/-- Feed symbols to MID unless VAR = 0 (43_lfsr_checksum.md R247, R248). -/
def State.feed (s : State) (xs : List Sym) : State :=
  match target s.var with
  | none => s
  | some _ => s.setMid (lfsrFeed s.mid xs)

/-- LFB (43_lfsr_checksum.md R247). -/
def execLfb (ra : RegIdx) (s : State) : Host.Outcome State Fault Refusal :=
  .next (((s.feed [s.getB ra]).setCnt (satAdd s.cnt 1)).advance)

/-- LFM: the region is read in full under every variant (20_memory.md R84) and under VAR = 0 only counted
(43_lfsr_checksum.md R248). -/
def execLfm (ra : RegIdx) (s : State) : Host.Outcome State Fault Refusal :=
  s.finish (do
    s.checkSm ra
    let a ← s.smRegion ra
    return ((s.feed a).setCnt (satAdd s.cnt a.length)).advance)

/-- LCHK: the destination check comes before the length test (43_lfsr_checksum.md R249). -/
def execLchk (rd : RegIdx) (s : State) : Host.Outcome State Fault Refusal :=
  match target s.var with
  | none => .next (((s.setN rd (descWithLen (s.getN rd) 0)).setResult .ok).advance)
  | some t =>
    s.finish (do
      let base := descBase (s.getN rd)
      checkRegion .smRange Config.smSize base checksumLength
      if codeLength - checksumLength < s.cnt.toNat then
        return (s.setResult .degenerateInput).advance
      else
        let c := checksumFrom s.mid t
        return (((((s.setSmList base c).setN rd (descWithLen (s.getN rd) checksumLength)).setMid
          (lfsrFeed s.mid c)).setCnt (satAdd s.cnt checksumLength)).setResult .ok).advance)

/-- What LVER finds (43_lfsr_checksum.md R250). -/
def State.verdict (s : State) : ResultCode :=
  match target s.var with
  | none => .ok
  | some t =>
    if s.cnt.toNat < checksumLength ∨ codeLength < s.cnt.toNat then .degenerateInput
    else if s.mid = t then .ok
    else .invalidChecksum

/-- LVER (43_lfsr_checksum.md R250). -/
def execLver (s : State) : Host.Outcome State Fault Refusal :=
  .next ((s.setResult s.verdict).advance)

/-- The adjusted residue D = MID ⊕ TARGET(VAR), 0 under VAR = 0 (43_lfsr_checksum.md R244, R251). -/
def State.adjustedResidue (s : State) : Midstate :=
  match target s.var with
  | none => 0#30
  | some t => s.mid ^^^ t

/-- LRES (43_lfsr_checksum.md R251). -/
def execLres (rd : RegIdx) (s : State) : Host.Outcome State Fault Refusal :=
  .next (s.putN rd (s.adjustedResidue.setWidth 32))

/-- SELFT: the fixed table passes every check (43_lfsr_checksum.md R253). -/
def execSelft (s : State) : Host.Outcome State Fault Refusal :=
  .next ((s.setResult .ok).advance)

end Sys2Proof.Machine
end

