-- ==== Sys2Proof/Machine/Field.lean ====
section
/-! DEFINITION. The fields GF(32) (40_gf32.md R150-R154) and GF(1024) (41_gf1024.md R180-R186). Addition is XOR in
both (R151, R182). -/

namespace Sys2Proof.Machine

/-- r XOR (a << i) for every i of the list whose bit of b is 1 (40_gf32.md R152, the first loop). -/
def clmulSteps (a : BitVec 9) (b : Sym) : List Nat → BitVec 9 → BitVec 9
  | [], r => r
  | i :: rest, r => clmulSteps a b rest (if b.getLsbD i then r ^^^ (a <<< i) else r)

/-- r XOR (0b101001 << (i - 5)) for every i of the list whose bit of r is 1 (40_gf32.md R152, the second loop). -/
def reduceSteps : List Nat → BitVec 9 → BitVec 9
  | [], r => r
  | i :: rest, r => reduceSteps rest (if r.getLsbD i then r ^^^ (0b101001#9 <<< (i - 5)) else r)

/-- The carry-less product reduced modulo z^5 + z^3 + 1 (40_gf32.md R152). -/
def gf32Mul (a b : Sym) : Sym :=
  (reduceSteps [8, 7, 6, 5] (clmulSteps (a.setWidth 9) b [0, 1, 2, 3, 4] 0#9)).setWidth 5

/-- The loop of repeated squaring (40_gf32.md R154); fuel bounds the number of halvings of n. -/
def powLoop {w : Nat} (mul : BitVec w → BitVec w → BitVec w) : Nat → BitVec w → BitVec w → Nat → BitVec w
  | 0, r, _, _ => r
  | fuel + 1, r, s, n =>
    if n = 0 then r else powLoop mul fuel (if n % 2 = 1 then mul r s else r) (mul s s) (n / 2)

/-- gf32_pow (40_gf32.md R154); n has log2 n + 1 binary digits, so the loop ends with n = 0. -/
def gf32Pow (a : Sym) (n : Nat) : Sym := powLoop gf32Mul (n.log2 + 1) 1#5 a n

/-- gf32_inv, b = a^30 (40_gf32.md R153). Defined by the spec for a ≠ 0 only; no command calls it on 0 (log 14). -/
def gf32Inv (a : Sym) : Sym := gf32Pow a 30

/-- c0, the low coordinate (41_gf1024.md R180). -/
def lowCoord (x : Ext) : Sym := x.extractLsb' 0 5
/-- c1, the high coordinate (41_gf1024.md R180). -/
def highCoord (x : Ext) : Sym := x.extractLsb' 5 5
/-- E(c0, c1) = c0 | (c1 << 5) (41_gf1024.md R180). -/
def extOf (c0 c1 : Sym) : Ext := c1 ++ c0

/-- gf1024_mul, with ζ² = ζ + 1 (41_gf1024.md R183). -/
def gf1024Mul (x y : Ext) : Ext :=
  let h := gf32Mul (highCoord x) (highCoord y)
  extOf (gf32Mul (lowCoord x) (lowCoord y) ^^^ h)
    (gf32Mul (lowCoord x) (highCoord y) ^^^ gf32Mul (highCoord x) (lowCoord y) ^^^ h)

/-- The norm a0² ⊕ a0·a1 ⊕ a1² (41_gf1024.md R184). -/
def gf1024Norm (x : Ext) : Sym :=
  gf32Mul (lowCoord x) (lowCoord x) ^^^ gf32Mul (lowCoord x) (highCoord x) ^^^ gf32Mul (highCoord x) (highCoord x)

/-- gf1024_inv by the norm (41_gf1024.md R184). Defined by the spec for x ≠ 0 only (log 14). -/
def gf1024Inv (x : Ext) : Ext :=
  let ni := gf32Inv (gf1024Norm x)
  extOf (gf32Mul (lowCoord x ^^^ highCoord x) ni) (gf32Mul (highCoord x) ni)

/-- embed(b): c0 = b, c1 = 0 (41_gf1024.md R185). -/
def embed (b : Sym) : Ext := b.setWidth 10

/-- gf1024_pow (41_gf1024.md R186). -/
def gf1024Pow (x : Ext) (n : Nat) : Ext := powLoop gf1024Mul (n.log2 + 1) 1#10 x n

end Sys2Proof.Machine
end

