-- ==== Sys2Proof/Machine/Poly.lean ====
section
/-! DEFINITION. Polynomials over GF(1024) as coefficient lists, constant term first, not trimmed (00_scope.md R17,
42_polynomial.md R210-R212, R218). -/

namespace Sys2Proof.Machine

/-- The coefficient of x^k, 0 beyond the list. -/
def coeff (p : List Ext) (k : Nat) : Ext := p.getD k 0#10

/-- A sum in GF(1024). -/
def xorSum (xs : List Ext) : Ext := xs.foldr (fun x y => x ^^^ y) 0#10

/-- Horner evaluation from the highest coefficient down (42_polynomial.md R211). -/
def peval : List Ext → Ext → Ext
  | [], _ => 0#10
  | a :: rest, x => gf1024Mul (peval rest x) x ^^^ a

/-- The convolution (42_polynomial.md R212): R[k] is the sum of A[i]·B[j] over i + j = k; empty if either list is. -/
def pmul (p q : List Ext) : List Ext :=
  if p.length = 0 ∨ q.length = 0 then []
  else (List.range (p.length + q.length - 1)).map fun k =>
    xorSum ((List.range p.length).map fun i =>
      if i ≤ k ∧ k - i < q.length then gf1024Mul (coeff p i) (coeff q (k - i)) else 0#10)

/-- The formal derivative (42_polynomial.md R212): odd powers keep their coefficient, even ones give 0. -/
def pder (p : List Ext) : List Ext :=
  (List.range (p.length - 1)).map fun k => if (k + 1) % 2 = 1 then coeff p (k + 1) else 0#10

/-- deg(B), the largest k with B[k] ≠ 0; none for the zero polynomial (42_polynomial.md R212). -/
def pdeg : List Ext → Option Nat
  | [] => none
  | a :: rest =>
    match pdeg rest with
    | some d => some (d + 1)
    | none => if a = 0#10 then none else some 0

/-- One division step at k (42_polynomial.md R218): R[k - db + j] gets q·B[j] added for j = 0..db. -/
def premStep (q : List Ext) (db : Nat) (iv : Ext) (r : List Ext) (k : Nat) : List Ext :=
  let quot := gf1024Mul (coeff r k) iv
  r.mapIdx fun i x => if k - db ≤ i ∧ i ≤ k then x ^^^ gf1024Mul quot (coeff q (i - (k - db))) else x

/-- The remainder of p by q, of degree db (42_polynomial.md R218): k runs from len p - 1 down to db; the result has
length db. -/
def premBy (p q : List Ext) (db : Nat) : List Ext :=
  let iv := gf1024Inv (coeff q db)
  let r := p ++ List.replicate (db - p.length) 0#10
  (((List.range (p.length - db)).reverse.map (· + db)).foldl (premStep q db iv) r).take db

end Sys2Proof.Machine
end

