-- ==== Sys2Proof/Machine/Bch.lean ====
section
/-! DEFINITION. Syndromes, Berlekamp-Massey, the root search, Forney's magnitudes and the correction procedure
(44_correction.md R270-R279). -/

namespace Sys2Proof.Machine

/-- ROOT_GENERATOR β = E(1, 6) (00_scope.md R11, 41_gf1024.md R187). -/
def beta : Ext := 0x0C1#10

/-- The first root exponent (00_scope.md R11); the others follow, three in all. -/
def firstExponent : Nat := 24

/-- β^k (00_scope.md R16). -/
def betaPow (k : Nat) : Ext := gf1024Pow beta k

/-- β^(-k) = β^((1023 - (k mod 1023)) mod 1023) (00_scope.md R16). -/
def betaNeg (k : Nat) : Ext := gf1024Pow beta ((1023 - k % 1023) % 1023)

/-- [embed(d_0), ..., embed(d_5)] with d_k = D[5k+4 : 5k] (44_correction.md R271). -/
def residuePoly (d : Midstate) : List Ext := (symbolsOf d).reverse.map embed

/-- [S_0, S_1, S_2], S_j the value of D at β^(24+j) (44_correction.md R271). -/
def syndromes (d : Midstate) : List Ext :=
  [0, 1, 2].map fun j => peval (residuePoly d) (betaPow (firstExponent + j))

/-- C ⊕ q·x^m·B, C extended with zeros as needed (44_correction.md R273). -/
def addShifted (c : List Ext) (q : Ext) (m : Nat) (b : List Ext) : List Ext :=
  (List.range (max c.length (m + b.length))).map fun k =>
    coeff c k ^^^ (if m ≤ k then gf1024Mul q (coeff b (k - m)) else 0#10)

/-- The variables of bm (44_correction.md R273). -/
structure BmState where
  c : List Ext
  b : List Ext
  l : Nat
  m : Nat
  disc : Ext
  deriving DecidableEq, Repr

/-- C = [1]; B = [1]; L = 0; m = 1; b = 1 (44_correction.md R273). -/
def bmInit : BmState := { c := [1#10], b := [1#10], l := 0, m := 1, disc := 1#10 }

/-- d = S[n] ⊕ the sum over i = 1..L of C[i]·S[n-i] (44_correction.md R273). -/
def bmDiscrepancy (s : List Ext) (st : BmState) (n : Nat) : Ext :=
  coeff s n ^^^ xorSum ((List.range st.l).map fun i => gf1024Mul (coeff st.c (i + 1)) (coeff s (n - (i + 1))))

/-- One turn of bm's loop (44_correction.md R273); disc is never 0, so its inverse is defined (R274). -/
def bmStep (s : List Ext) (st : BmState) (n : Nat) : BmState :=
  let d := bmDiscrepancy s st n
  if d = 0#10 then { st with m := st.m + 1 }
  else
    let c' := addShifted st.c (gf1024Mul d (gf1024Inv st.disc)) st.m st.b
    if 2 * st.l ≤ n then { c := c', b := st.c, l := n + 1 - st.l, m := 1, disc := d }
    else { st with c := c', m := st.m + 1 }

/-- bm(S): the locator, of length L + 1, and L (44_correction.md R273). -/
def bm (s : List Ext) : List Ext × Nat :=
  let st := (List.range s.length).foldl (bmStep s) bmInit
  ((List.range (st.l + 1)).map (coeff st.c), st.l)

/-- roots(C, n): the positions i < n with C(β^(-i)) = 0, ascending (44_correction.md R275). -/
def rootPositions (c : List Ext) (n : Nat) : List Nat :=
  (List.range n).filter fun i => peval c (betaNeg i) == 0#10

/-- The denominator X^24·C'(X⁻¹) at position p (44_correction.md R277, R278). -/
def forneyDen (c : List Ext) (p : Nat) : Ext :=
  gf1024Mul (gf1024Pow (betaPow p) firstExponent) (peval (pder c) (betaNeg p))

/-- forney(S, C, p) (44_correction.md R277). -/
def forneyValue (s c : List Ext) (p : Nat) : Ext :=
  gf1024Mul (gf1024Mul (betaPow p) (peval ((pmul c s).take s.length) (betaNeg p))) (gf1024Inv (forneyDen c p))

/-- correct(VAR, s) after its length test, for the adjusted residue d of an n-symbol stream (44_correction.md R279). -/
def correctResidue (d : Midstate) (n : Nat) : ResultCode × Option (Nat × Sym) :=
  let s := syndromes d
  if zeroOfList s then (.ok, none)
  else
    let (c, l) := bm s
    if l ≠ 1 then (.uncorrectable, none)
    else
      match rootPositions c n with
      | [p] =>
        let e := forneyValue s c p
        if highCoord e ≠ 0#5 ∨ e = 0#10 then (.uncorrectable, none) else (.ok, some (p, lowCoord e))
      | _ => (.uncorrectable, none)

/-- CORR's result word {0x0001, 0, e, p} for the fix (p, e), and 0 for none (44_correction.md R280, R281). -/
def correctionWord : Option (Nat × Sym) → Word
  | none => 0#32
  | some (p, e) => 0x0001#16 ++ 0#1 ++ e ++ BitVec.ofNat 10 p

end Sys2Proof.Machine
end

