-- ==== Sys2Proof/Machine/Correction.lean ====
section
/-! DEFINITION. The five correction commands (44_correction.md R272-R280). -/

namespace Sys2Proof.Machine

/-- SYND: no syndromes under VAR = 0, else three, of the adjusted residue of MID (44_correction.md R272). -/
def execSynd (rd : RegIdx) (s : State) : Host.Outcome State Fault Refusal :=
  let xs := match target s.var with
    | none => []
    | some _ => syndromes s.adjustedResidue
  s.finish (s.putPoly rd xs (zeroOfList xs))

/-- LOC: L + 1 coefficients, Z <- (L = 0); VAR is not read (44_correction.md R274). -/
def execLoc (rd ra : RegIdx) (s : State) : Host.Outcome State Fault Refusal :=
  s.finish (do
    s.checkXm ra
    let syn ← s.xmRegion ra
    s.putPoly rd (bm syn).1 ((bm syn).2 == 0))

/-- Raise VARIANT(0) under VAR = 0 (44_correction.md R276, R278). -/
def State.checkVariant (s : State) : Except Stop Unit :=
  match target s.var with
  | none => .error (.raise .variant 0#32)
  | some _ => .ok ()

/-- ROOTS: VARIANT, then ARG_RANGE(n), before the source is read; positions as raw integers; Z <- (none found)
(44_correction.md R276). -/
def execRoots (rd ra rb : RegIdx) (s : State) : Host.Outcome State Fault Refusal :=
  s.finish (do
    s.checkVariant
    let n := (s.getN rb).toNat
    if codeLength < n then throw (.raise .argRange (s.getN rb))
    else
      s.checkXm ra
      let c ← s.xmRegion ra
      let r := rootPositions c n
      s.putPoly rd (r.map (BitVec.ofNat 10)) (r.length == 0))

/-- Raise ARG_RANGE(P[k]) for the first position word of 1023 or more (44_correction.md R278). -/
def checkPositions : List Ext → Except Stop Unit
  | [] => .ok ()
  | p :: rest =>
    if codeLength ≤ p.toNat then .error (.raise .argRange (p.setWidth 32)) else checkPositions rest

/-- Raise DIV_ZERO(P[k]) for the first position whose denominator is 0 (44_correction.md R278). -/
def checkDenominators (c : List Ext) : List Ext → Except Stop Unit
  | [] => .ok ()
  | p :: rest =>
    if forneyDen c p.toNat = 0#10 then .error (.raise .divZero (p.setWidth 32)) else checkDenominators c rest

/-- FORNEY: VARIANT, the sources' ranges and words, every ARG_RANGE, every DIV_ZERO, the destination (44_correction.md
R278, 60_exceptions.md R347, 20_memory.md R84). -/
def execForney (rd ra rb rc : RegIdx) (s : State) : Host.Outcome State Fault Refusal :=
  s.finish (do
    s.checkVariant
    s.checkXm ra
    s.checkXm rb
    s.checkXm rc
    let syn ← s.xmRegion ra
    let c ← s.xmRegion rb
    let p ← s.xmRegion rc
    checkPositions p
    checkDenominators c p
    let mag := p.map fun q => forneyValue syn c q.toNat
    s.putPoly rd mag (zeroOfList mag))

/-- Write the fix of an n-symbol stream at base, one SM word, if there is one (44_correction.md R280). -/
def State.applyFix (s : State) (base : Nat) (xs : List Sym) : Option (Nat × Sym) → State
  | none => s
  | some (p, e) => s.setSm (base + xs.length - 1 - p) (xs.getD (xs.length - 1 - p) 0#5 ^^^ e)

/-- RC, N[rd], V and Z of CORR (44_correction.md R280). -/
def State.reportFix (s : State) (rd : RegIdx) (r : ResultCode) (fix : Option (Nat × Sym)) : State :=
  (((s.setN rd (correctionWord fix)).setResult r).setZ (zeroOf (correctionWord fix))).advance

/-- CORR: its own pass over the stream, read in full under every variant and length (20_memory.md R84); MID and CNT are
neither read nor written (44_correction.md R279, R280). -/
def execCorr (rd ra : RegIdx) (s : State) : Host.Outcome State Fault Refusal :=
  s.finish (do
    s.checkSm ra
    let xs ← s.smRegion ra
    match target s.var with
    | none => return s.reportFix rd .ok none
    | some t =>
      if xs.length < checksumLength ∨ codeLength < xs.length then return s.reportFix rd .degenerateInput none
      else
        let out := correctResidue (lfsrFeed (initMidstate s.var) xs ^^^ t) xs.length
        return (s.applyFix (descBase (s.getN ra)) xs out.2).reportFix rd out.1 out.2)

end Sys2Proof.Machine
end

