-- ==== Sys2Proof/Machine/Gf1024.lean ====
section
/-! DEFINITION. The eight GF(1024) commands (41_gf1024.md R188-R195). -/

namespace Sys2Proof.Machine

/-- LIE (41_gf1024.md R188). -/
def execLie (rd : RegIdx) (imm : BitVec 10) (s : State) : Host.Outcome State Fault Refusal :=
  .next (s.putE rd imm)

/-- ADDE (41_gf1024.md R189). -/
def execAdde (rd ra rb : RegIdx) (s : State) : Host.Outcome State Fault Refusal :=
  .next (s.putE rd (s.getE ra ^^^ s.getE rb))

/-- MULE (41_gf1024.md R190). -/
def execMule (rd ra rb : RegIdx) (s : State) : Host.Outcome State Fault Refusal :=
  .next (s.putE rd (gf1024Mul (s.getE ra) (s.getE rb)))

/-- INVE: DIV_ZERO(0) on 0, else the inverse and Z <- 0 (41_gf1024.md R191). -/
def execInve (rd ra : RegIdx) (s : State) : Host.Outcome State Fault Refusal :=
  s.finish (if s.getE ra = 0#10 then .error (.raise .divZero 0#32)
    else .ok (((s.setE rd (gf1024Inv (s.getE ra))).setZ false).advance))

/-- POWE, the exponent the unsigned N[rb] (41_gf1024.md R192). -/
def execPowe (rd ra rb : RegIdx) (s : State) : Host.Outcome State Fault Refusal :=
  .next (s.putE rd (gf1024Pow (s.getE ra) (s.getN rb).toNat))

/-- NEGE: negation is the identity (41_gf1024.md R193). -/
def execNege (rd ra : RegIdx) (s : State) : Host.Outcome State Fault Refusal :=
  .next (s.putE rd (s.getE ra))

/-- EMB: E[rd] <- embed(B[ra]) (41_gf1024.md R194). -/
def execEmb (rd ra : RegIdx) (s : State) : Host.Outcome State Fault Refusal :=
  .next (s.putE rd (embed (s.getB ra)))

/-- PRJ: NOT_IN_BASE(x) when the high coordinate is not 0, else B[rd] <- x[4:0] (41_gf1024.md R195). -/
def execPrj (rd ra : RegIdx) (s : State) : Host.Outcome State Fault Refusal :=
  s.finish (if highCoord (s.getE ra) ≠ 0#5 then .error (.raise .notInBase ((s.getE ra).setWidth 32))
    else .ok (s.putB rd (lowCoord (s.getE ra))))

end Sys2Proof.Machine
end

