-- ==== Sys2Proof/Machine/Gf32.lean ====
section
/-! DEFINITION. The six GF(32) commands (40_gf32.md R155-R160). -/

namespace Sys2Proof.Machine

/-- LIB (40_gf32.md R155). -/
def execLib (rd : RegIdx) (imm : BitVec 5) (s : State) : Host.Outcome State Fault Refusal :=
  .next (s.putB rd imm)

/-- ADDB (40_gf32.md R156). -/
def execAddb (rd ra rb : RegIdx) (s : State) : Host.Outcome State Fault Refusal :=
  .next (s.putB rd (s.getB ra ^^^ s.getB rb))

/-- MULB (40_gf32.md R157). -/
def execMulb (rd ra rb : RegIdx) (s : State) : Host.Outcome State Fault Refusal :=
  .next (s.putB rd (gf32Mul (s.getB ra) (s.getB rb)))

/-- INVB: DIV_ZERO(0) on 0, else the inverse and Z <- 0 (40_gf32.md R158). -/
def execInvb (rd ra : RegIdx) (s : State) : Host.Outcome State Fault Refusal :=
  s.finish (if s.getB ra = 0#5 then .error (.raise .divZero 0#32)
    else .ok (((s.setB rd (gf32Inv (s.getB ra))).setZ false).advance))

/-- POWB, the exponent the unsigned N[rb] (40_gf32.md R159). -/
def execPowb (rd ra rb : RegIdx) (s : State) : Host.Outcome State Fault Refusal :=
  .next (s.putB rd (gf32Pow (s.getB ra) (s.getN rb).toNat))

/-- NEGB: negation is the identity (40_gf32.md R160). -/
def execNegb (rd ra : RegIdx) (s : State) : Host.Outcome State Fault Refusal :=
  .next (s.putB rd (s.getB ra))

end Sys2Proof.Machine
end

