-- ==== Sys2Proof/Machine/Polynomial.lean ====
section
/-! DEFINITION. The seven polynomial commands (42_polynomial.md R213-R219). Every source is read before any write
(20_memory.md R84); range checks of sources come in operand order, the destination's last (60_exceptions.md R347). -/

namespace Sys2Proof.Machine

/-- PEMB (42_polynomial.md R213). -/
def execPemb (rd ra : RegIdx) (s : State) : Host.Outcome State Fault Refusal :=
  s.finish (do
    s.checkSm ra
    let a ← s.smRegion ra
    s.putPoly rd (a.map embed) (zeroOfList a))

/-- PEVB (42_polynomial.md R214). -/
def execPevb (rd ra rb : RegIdx) (s : State) : Host.Outcome State Fault Refusal :=
  s.finish (do
    s.checkSm ra
    let a ← s.smRegion ra
    return s.putE rd (peval (a.map embed) (s.getE rb)))

/-- PEVE (42_polynomial.md R215). -/
def execPeve (rd ra rb : RegIdx) (s : State) : Host.Outcome State Fault Refusal :=
  s.finish (do
    s.checkXm ra
    let a ← s.xmRegion ra
    return s.putE rd (peval a (s.getE rb)))

/-- PMUL (42_polynomial.md R216). -/
def execPmul (rd ra rb : RegIdx) (s : State) : Host.Outcome State Fault Refusal :=
  s.finish (do
    s.checkXm ra
    s.checkXm rb
    let a ← s.xmRegion ra
    let b ← s.xmRegion rb
    s.putPoly rd (pmul a b) (zeroOfList (pmul a b)))

/-- PMULX: the first min(d, len) coefficients of the product (42_polynomial.md R217). -/
def execPmulx (rd ra rb : RegIdx) (d : BitVec 16) (s : State) : Host.Outcome State Fault Refusal :=
  s.finish (do
    s.checkXm ra
    s.checkXm rb
    let a ← s.xmRegion ra
    let b ← s.xmRegion rb
    s.putPoly rd ((pmul a b).take d.toNat) (zeroOfList ((pmul a b).take d.toNat)))

/-- PREM: DIV_ZERO(0) for the zero divisor, once both sources are read (42_polynomial.md R218, 20_memory.md R84). -/
def execPrem (rd ra rb : RegIdx) (s : State) : Host.Outcome State Fault Refusal :=
  s.finish (do
    s.checkXm ra
    s.checkXm rb
    let a ← s.xmRegion ra
    let b ← s.xmRegion rb
    match pdeg b with
    | none => throw (.raise .divZero 0#32)
    | some db => s.putPoly rd (premBy a b db) (zeroOfList (premBy a b db)))

/-- PDER (42_polynomial.md R219). -/
def execPder (rd ra : RegIdx) (s : State) : Host.Outcome State Fault Refusal :=
  s.finish (do
    s.checkXm ra
    let a ← s.xmRegion ra
    s.putPoly rd (pder a) (zeroOfList (pder a)))

end Sys2Proof.Machine
end

