-- ==== Sys2Proof/Machine/Sequencer.lean ====
section
/-! DEFINITION. Sequencer control, integer and data-movement commands (45_sequencer_data.md R300-R310). -/

namespace Sys2Proof.Machine

/-- HALT: DONE, IDLE, PC stays (45_sequencer_data.md R300). -/
def execHalt (s : State) : Host.Outcome State Fault Refusal :=
  .next s.halt

/-- NOP (45_sequencer_data.md R301). -/
def execNop (s : State) : Host.Outcome State Fault Refusal :=
  .next s.advance

/-- Whether BC is taken: AL, Z, NZ, V, NV (30_encoding.md R116, 45_sequencer_data.md R302). -/
def State.taken (s : State) (cond : BitVec 4) : Bool :=
  match cond with
  | 0#4 => true
  | 1#4 => s.z
  | 2#4 => !s.z
  | 3#4 => s.v
  | 4#4 => !s.v
  | _ => false

/-- BC; the word with cond >= 5 is illegal (30_encoding.md R118), and the term takes that fault (log 13)
(45_sequencer_data.md R302). -/
def execBc (cond : BitVec 4) (dest : BitVec 16) (s : State) : Host.Outcome State Fault Refusal :=
  if 5 ≤ cond.toNat then .next (s.takeFault .illegalCommand (encode (.bc cond dest)))
  else if s.taken cond then .next (s.jump dest)
  else .next s.advance

/-- DBNZ; Z is not written (45_sequencer_data.md R303). -/
def execDbnz (rd : RegIdx) (dest : BitVec 16) (s : State) : Host.Outcome State Fault Refusal :=
  let x := s.getN rd - 1#32
  if x ≠ 0#32 then .next ((s.setN rd x).jump dest) else .next ((s.setN rd x).advance)

/-- LIN (45_sequencer_data.md R304). -/
def execLin (rd : RegIdx) (imm : BitVec 16) (s : State) : Host.Outcome State Fault Refusal :=
  .next (s.putN rd (imm.setWidth 32))

/-- LHN: the low half is kept (45_sequencer_data.md R305). -/
def execLhn (rd : RegIdx) (imm : BitVec 16) (s : State) : Host.Outcome State Fault Refusal :=
  .next (s.putN rd (imm ++ (s.getN rd).extractLsb' 0 16))

/-- NADDI: the immediate is signed, the sum wraps (45_sequencer_data.md R306). -/
def execNaddi (rd ra : RegIdx) (imm : BitVec 16) (s : State) : Host.Outcome State Fault Refusal :=
  .next (s.putN rd (s.getN ra + imm.signExtend 32))

/-- LDS (45_sequencer_data.md R307). -/
def execLds (rd ra : RegIdx) (imm : BitVec 16) (s : State) : Host.Outcome State Fault Refusal :=
  s.finish (do
    checkAddr .smRange Config.smSize (s.ea ra imm)
    let x ← readWord s.sm .unwrittenSymbol (s.ea ra imm)
    return s.putB rd x)

/-- STS; no flag is written (45_sequencer_data.md R308). -/
def execSts (rd ra : RegIdx) (imm : BitVec 16) (s : State) : Host.Outcome State Fault Refusal :=
  s.finish (do
    checkAddr .smRange Config.smSize (s.ea ra imm)
    return (s.setSm (s.ea ra imm) (s.getB rd)).advance)

/-- LDX (45_sequencer_data.md R309). -/
def execLdx (rd ra : RegIdx) (imm : BitVec 16) (s : State) : Host.Outcome State Fault Refusal :=
  s.finish (do
    checkAddr .xmRange Config.xmSize (s.ea ra imm)
    let x ← readWord s.xm .unwrittenExtension (s.ea ra imm)
    return s.putE rd x)

/-- STX; no flag is written (45_sequencer_data.md R310). -/
def execStx (rd ra : RegIdx) (imm : BitVec 16) (s : State) : Host.Outcome State Fault Refusal :=
  s.finish (do
    checkAddr .xmRange Config.xmSize (s.ea ra imm)
    return (s.setXm (s.ea ra imm) (s.getE rd)).advance)

end Sys2Proof.Machine
end

