-- ==== Sys2Proof/Machine/Dispatch.lean ====
section
/-! DEFINITION. One arm per constructor of Instr, each one direct call of that command's meaning. -/

namespace Sys2Proof.Machine

def exec (i : Instr) (s : State) : Host.Outcome State Fault Refusal :=
  match i with
  | .halt => Sys2Proof.Machine.execHalt s
  | .nop => Sys2Proof.Machine.execNop s
  | .bc cond dest => Sys2Proof.Machine.execBc cond dest s
  | .dbnz rd dest => Sys2Proof.Machine.execDbnz rd dest s
  | .lib rd imm => Sys2Proof.Machine.execLib rd imm s
  | .addb rd ra rb => Sys2Proof.Machine.execAddb rd ra rb s
  | .mulb rd ra rb => Sys2Proof.Machine.execMulb rd ra rb s
  | .invb rd ra => Sys2Proof.Machine.execInvb rd ra s
  | .powb rd ra rb => Sys2Proof.Machine.execPowb rd ra rb s
  | .negb rd ra => Sys2Proof.Machine.execNegb rd ra s
  | .lie rd imm => Sys2Proof.Machine.execLie rd imm s
  | .adde rd ra rb => Sys2Proof.Machine.execAdde rd ra rb s
  | .mule rd ra rb => Sys2Proof.Machine.execMule rd ra rb s
  | .inve rd ra => Sys2Proof.Machine.execInve rd ra s
  | .powe rd ra rb => Sys2Proof.Machine.execPowe rd ra rb s
  | .nege rd ra => Sys2Proof.Machine.execNege rd ra s
  | .emb rd ra => Sys2Proof.Machine.execEmb rd ra s
  | .prj rd ra => Sys2Proof.Machine.execPrj rd ra s
  | .lin rd imm => Sys2Proof.Machine.execLin rd imm s
  | .lhn rd imm => Sys2Proof.Machine.execLhn rd imm s
  | .naddi rd ra imm => Sys2Proof.Machine.execNaddi rd ra imm s
  | .lds rd ra imm => Sys2Proof.Machine.execLds rd ra imm s
  | .sts rd ra imm => Sys2Proof.Machine.execSts rd ra imm s
  | .ldx rd ra imm => Sys2Proof.Machine.execLdx rd ra imm s
  | .stx rd ra imm => Sys2Proof.Machine.execStx rd ra imm s
  | .pemb rd ra => Sys2Proof.Machine.execPemb rd ra s
  | .pevb rd ra rb => Sys2Proof.Machine.execPevb rd ra rb s
  | .peve rd ra rb => Sys2Proof.Machine.execPeve rd ra rb s
  | .pmul rd ra rb => Sys2Proof.Machine.execPmul rd ra rb s
  | .pmulx rd ra rb imm => Sys2Proof.Machine.execPmulx rd ra rb imm s
  | .prem rd ra rb => Sys2Proof.Machine.execPrem rd ra rb s
  | .pder rd ra => Sys2Proof.Machine.execPder rd ra s
  | .setv variant => Sys2Proof.Machine.execSetv variant s
  | .lrst => Sys2Proof.Machine.execLrst s
  | .lfb ra => Sys2Proof.Machine.execLfb ra s
  | .lfm ra => Sys2Proof.Machine.execLfm ra s
  | .lchk rd => Sys2Proof.Machine.execLchk rd s
  | .lver => Sys2Proof.Machine.execLver s
  | .lres rd => Sys2Proof.Machine.execLres rd s
  | .synd rd => Sys2Proof.Machine.execSynd rd s
  | .loc rd ra => Sys2Proof.Machine.execLoc rd ra s
  | .roots rd ra rb => Sys2Proof.Machine.execRoots rd ra rb s
  | .forney rd ra rb rc => Sys2Proof.Machine.execForney rd ra rb rc s
  | .corr rd ra => Sys2Proof.Machine.execCorr rd ra s
  | .selft => Sys2Proof.Machine.execSelft s

end Sys2Proof.Machine
end

