-- ==== Sys2Proof/Machine/Window.lean ====
section
/-! DEFINITION. The host's window (20_memory.md R70-R78): what each offset names, what a read returns, what a write does,
soft reset (70_reset_and_hazards.md R382) and hard reset (R380). -/

namespace Sys2Proof.Machine

/-- What a word offset of the window names (20_memory.md R73, R74, R75). -/
inductive WindowTarget where
  | id
  | ctrl
  | status
  | start
  | pc
  | ecode
  | epc
  | einfo
  | var
  | mid
  | cnt
  | flags
  | b (i : RegIdx)
  | e (i : RegIdx)
  | n (i : RegIdx)
  | cm (i : Nat)
  | xm (i : Nat)
  | sm (i : Nat)
  | reserved
  deriving DecidableEq, Repr

/-- The word index of byte offset a in a window that begins at lo. -/
def wordIndex (lo a : Nat) : Nat := (a - lo) / 4

/-- The register map (20_memory.md R73), the memory windows (R74), everything else reserved (R75). -/
def windowTarget (offset : BitVec 16) : WindowTarget :=
  let a := offset.toNat
  if a = 0x0000 then .id
  else if a = 0x0004 then .ctrl
  else if a = 0x0008 then .status
  else if a = 0x000C then .start
  else if a = 0x0010 then .pc
  else if a = 0x0014 then .ecode
  else if a = 0x0018 then .epc
  else if a = 0x001C then .einfo
  else if a = 0x0020 then .var
  else if a = 0x0024 then .mid
  else if a = 0x0028 then .cnt
  else if a = 0x002C then .flags
  else if 0x0040 ≤ a ∧ a < 0x0060 then .b (BitVec.ofNat 3 (wordIndex 0x0040 a))
  else if 0x0060 ≤ a ∧ a < 0x0080 then .e (BitVec.ofNat 3 (wordIndex 0x0060 a))
  else if 0x0080 ≤ a ∧ a < 0x00A0 then .n (BitVec.ofNat 3 (wordIndex 0x0080 a))
  else if 0x1000 ≤ a ∧ a < 0x1000 + 4 * Config.cmSize then .cm (wordIndex 0x1000 a)
  else if 0x2000 ≤ a ∧ a < 0x2000 + 4 * Config.xmSize then .xm (wordIndex 0x2000 a)
  else if 0x4000 ≤ a ∧ a < 0x4000 + 4 * Config.smSize then .sm (wordIndex 0x4000 a)
  else .reserved

/-- The width of what an offset names (20_memory.md R73, R74); nothing stands at a reserved offset (R75). -/
def windowWidth : WindowTarget → Nat
  | .id => 32
  | .ctrl => 3
  | .status => 12
  | .start => 16
  | .pc => 16
  | .ecode => 8
  | .epc => 16
  | .einfo => 32
  | .var => 2
  | .mid => 30
  | .cnt => 32
  | .flags => 2
  | .b _ => 5
  | .e _ => 10
  | .n _ => 32
  | .cm _ => 32
  | .xm _ => 10
  | .sm _ => 5
  | .reserved => 0

/-- The constant of ID (10_state.md R50). -/
def idWord : Word := 0x42470001#32

/-- The value behind an offset, zero-extended (20_memory.md R76); an unwritten memory word is refused
(10_state.md R57). -/
def State.windowValue (s : State) : WindowTarget → Except Stop Word
  | .id => .ok idWord
  | .ctrl => .ok s.ctrlWord
  | .status => .ok s.statusWord
  | .start => .ok 0#32
  | .pc => .ok (s.pc.setWidth 32)
  | .ecode => .ok (s.ecode.setWidth 32)
  | .epc => .ok (s.epc.setWidth 32)
  | .einfo => .ok s.einfo
  | .var => .ok ((variantNumber s.var).setWidth 32)
  | .mid => .ok (s.mid.setWidth 32)
  | .cnt => .ok s.cnt
  | .flags => .ok s.flagsWord
  | .b i => .ok ((s.getB i).setWidth 32)
  | .e i => .ok ((s.getE i).setWidth 32)
  | .n i => .ok (s.getN i)
  | .cm i => readWord s.cm .unwrittenCommand i
  | .xm i => (readWord s.xm .unwrittenExtension i).map (·.setWidth 32)
  | .sm i => (readWord s.sm .unwrittenSymbol i).map (·.setWidth 32)
  | .reserved => .ok 0#32

/-- Whether a read is exact while BUSY = 1: ID, CTRL and STATUS (20_memory.md R77), and a reserved offset, which reads 0
at any time (R75, 92_eei_decisions.md D5, 93_implementation_defined.md U8; R77 and U2 leave it open while busy, and the
model follows R75: DESIGN CHOICE, log 8). -/
def exactWhileBusy : WindowTarget → Bool
  | .id => true
  | .ctrl => true
  | .status => true
  | .reserved => true
  | _ => false

/-- A host read: the value goes to hostData and nothing else changes (20_memory.md R78); while busy, any register
or memory word but ID, CTRL and STATUS gives a free value of its width (R77, 93_implementation_defined.md U2; log 7). So does
a memory word that nothing has written since reset, where 10_state.md R57 and U1 would refuse (DESIGN CHOICE, log 21). -/
def State.hostRead (s : State) (t : WindowTarget) : Except Stop State :=
  if s.busy && !exactWhileBusy t then
    .ok { s with hostData := ((Config.busyReadValue s.draws).setWidth (windowWidth t)).setWidth 32, draws := s.draws + 1 }
  else
    match s.windowValue t with
    | .ok x => .ok { s with hostData := x }
    | .error e => .error e

/-- Soft reset: the control state of the table, everything else kept (70_reset_and_hazards.md R382). -/
def State.softReset (s : State) : State :=
  { s with
    pc := 0x0000#16, z := false, v := false, var := .bech32, mid := 0x00000001#30, cnt := 0#32, rc := .ok
    ecode := 0#8, epc := 0#16, einfo := 0#32, ie := false, busy := false, done := false, err := false, werr := false
    stopReq := false }

/-- Hard reset: every piece of the unit's state takes its reset value (70_reset_and_hazards.md R380); the host's coming
events, its read data and the count of draws are no state of the unit (log 18). -/
def State.hardReset (s : State) : State :=
  { State.reset with host := s.host, hostData := s.hostData, draws := s.draws }

/-- A write of CTRL, at any time: IE, STOP (an idle unit clears STOP_REQ at once, 10_state.md R51), then SRST, which
wins over both (10_state.md R47, 60_exceptions.md R344, 70_reset_and_hazards.md R382). -/
def State.writeCtrl (s : State) (x : Word) : State :=
  let t := { s with ie := x.getLsbD 0, stopReq := s.busy && (s.stopReq || x.getLsbD 1) }
  if x.getLsbD 2 then t.softReset else t

/-- A host write while idle (20_memory.md R76; 10_state.md R48, R49, R40); a read-only register ignores it (log 9). -/
def State.writeIdle (s : State) (t : WindowTarget) (x : Word) : State :=
  match t with
  | .id => s
  | .ctrl => s.writeCtrl x
  | .status =>
    { s with done := s.done && !x.getLsbD 1, err := s.err && !x.getLsbD 2, werr := s.werr && !x.getLsbD 3 }
  | .start => s.start (x.setWidth 16)
  | .pc => s
  | .ecode => s
  | .epc => s
  | .einfo => s
  | .var =>
    match variantOfNumber (x.setWidth 2) with
    | some y => s.setVar y
    | none => s
  | .mid => s.setMid (x.setWidth 30)
  | .cnt => s.setCnt x
  | .flags => { s with z := x.getLsbD 0, v := x.getLsbD 1 }
  | .b i => s.setB i (x.setWidth 5)
  | .e i => s.setE i (x.setWidth 10)
  | .n i => s.setN i x
  | .cm i => s.setCm i x
  | .xm i => s.setXm i (x.setWidth 10)
  | .sm i => s.setSm i (x.setWidth 5)
  | .reserved => s

/-- A host write while the sequencer runs: CTRL takes effect, any other is dropped and sets WERR (20_memory.md R77,
70_reset_and_hazards.md R388, 93_implementation_defined.md U3). A reserved offset is no exception, though R75 says that
it sets no flag (DESIGN CHOICE, log 8). -/
def State.writeBusy (s : State) (t : WindowTarget) (x : Word) : State :=
  match t with
  | .ctrl => s.writeCtrl x
  | _ => { s with werr := true }

/-- A host write (20_memory.md R76, R77). -/
def State.hostWrite (s : State) (t : WindowTarget) (x : Word) : State :=
  if s.busy then s.writeBusy t x else s.writeIdle t x

/-- An access the window takes: aligned and 32 bits wide (20_memory.md R72). -/
def accessOk (offset : BitVec 16) (size : Nat) : Bool := size == 4 && offset.toNat % 4 == 0

/-- The byte offset in the window of a host byte address, given the platform's BGFU_BASE (20_memory.md R79,
92_eei_decisions.md D5a; log 16); none outside the 64 KiB window. -/
def windowOffset (base addr : Nat) : Option (BitVec 16) :=
  if base ≤ addr ∧ addr < base + 0x10000 then some (BitVec.ofNat 16 (addr - base)) else none

end Sys2Proof.Machine
end

