-- ==== Sys2Proof/Machine/Cycle.lean ====
section
/-! DEFINITION. The fetch-execute cycle (45_sequencer_data.md R311) and the turns of the host (log 5). -/

namespace Sys2Proof.Machine

/-- The fetch at PC: FETCH_RANGE at or above CM_SIZE (60_exceptions.md R341), else CM[PC]. -/
def State.fetch (s : State) : Except Stop Word :=
  if Config.cmSize ≤ s.pc.toNat then .error (.raise .fetchRange (s.pc.setWidth 32))
  else readWord s.cm .unwrittenCommand s.pc.toNat

/-- Fetch, decode and execute one command; an illegal word is a fault (45_sequencer_data.md R311, 30_encoding.md R118). -/
def State.runCommand (s : State) : Host.Outcome State Fault Refusal :=
  match s.fetch with
  | .error e => s.finish (.error e)
  | .ok w =>
    match decode w with
    | .error _ => .next (s.takeFault .illegalCommand w)
    | .ok i => exec i s

/-- One step of the sequencer (45_sequencer_data.md R311). Idle, it waits for START (10_state.md R52) and clears a
STOP_REQ without effect (R51; log 6). -/
def State.sequencerStep (s : State) : Host.Outcome State Fault Refusal :=
  if s.busy then
    if s.stopReq then .next ({ s with stopReq := false }.takeFault .aborted 0#32) else s.runCommand
  else .next { s with stopReq := false }

/-- What the head of the host's list says: a host access or reset, or the sequencer's turn (log 5). -/
def State.turn (s : State) : HostEvent → Host.Outcome State Fault Refusal
  | .wait => s.sequencerStep
  | .read offset size =>
    if accessOk offset size then s.finish (s.hostRead (windowTarget offset)) else .refused (.hostAccessShape offset size)
  | .write offset size x =>
    if accessOk offset size then .next (s.hostWrite (windowTarget offset) x) else .refused (.hostAccessShape offset size)
  | .hardReset => .next s.hardReset

/-- One step of the machine: the next host event, or the sequencer when none is listed (log 5). -/
def unitStep (s : State) : Host.Outcome State Fault Refusal :=
  match s.host with
  | [] => s.sequencerStep
  | e :: rest => { s with host := rest }.turn e

/-- The host's load of one command where the next fetch reads, followed by START there (70_reset_and_hazards.md R383);
a PC beyond CM is replaced by 0, pending host events and STOP_REQ are dropped, a running unit keeps running (log 11). -/
def State.loadCommand (s : State) (w : Word) : State :=
  let at_ := if s.pc.toNat < Config.cmSize then s.pc else 0#16
  let t := { s with cm := s.cm.write at_.toNat w, pc := at_, host := [], stopReq := false }
  if t.busy then t else t.start at_

end Sys2Proof.Machine
end

