-- ==== Sys2Proof/Machine/Step.lean ====
section
/-! DEFINITION. The step of the machine, and placing one command where the next step fetches. -/

namespace Sys2Proof.Machine

/-- One step (45_sequencer_data.md R311, and the host's turns; Machine/Cycle.lean). -/
def step (s : State) : Host.Outcome State Fault Refusal := unitStep s

/-- The command whose bits are w (the bits at and above nbits are 0), placed and started (log 11). -/
def State.withFetchWord (s : State) (nbits w : Nat) : State := s.loadCommand (BitVec.ofNat 32 (w % 2 ^ nbits))

end Sys2Proof.Machine
end

