-- ==== Sys2Proof/Safety.lean ====
section
/-! DEFINITION. What every reachable state satisfies: the invariant that claims are stated in terms of. -/

namespace Sys2Proof.Machine

/-- Each memory is in canonical form and lists only indices it has (20_memory.md R80; log 4). -/
abbrev State.memoriesWf (s : State) : Prop :=
  s.sm.wf ∧ s.sm.below Config.smSize ∧ s.xm.wf ∧ s.xm.below Config.xmSize ∧ s.cm.wf ∧ s.cm.below Config.cmSize

/-- ECODE holds 0 or a fault number 1..9 (60_exceptions.md R340), and is not 0 while ERR is set (R345; 10_state.md R49);
RC is not 4 (43_lfsr_checksum.md R253). -/
abbrev State.codesOk (s : State) : Prop :=
  s.ecode.toNat ≤ 9 ∧ (s.err = true → s.ecode ≠ 0#8) ∧ s.rc ≠ .specInconsistent

/-- While the sequencer runs, DONE and ERR are clear (10_state.md R49, 45_sequencer_data.md R300, 60_exceptions.md R345);
a pending STOP_REQ means that it runs (10_state.md R51). -/
abbrev State.runOk (s : State) : Prop :=
  (s.busy = true → s.done = false ∧ s.err = false) ∧ (s.stopReq = true → s.busy = true)

/-- The invariant. -/
abbrev State.Inv (s : State) : Prop := s.memoriesWf ∧ s.codesOk ∧ s.runOk

end Sys2Proof.Machine
end

