-- ==== Sys2Proof/Certificates/Slice0/Obligations.lean ====
section
/-! DEFINITION. The statements for the provers, from the numbered rules of spec/. Frames are said through the named
reads: getB, getE, getN and one word of memory at an address. -/

namespace Sys2Proof.Claims

open Sys2Proof.Machine

/-! ## What a statement says about two states -/

/-- Every GF(32) register is unchanged. -/
def KeepsB (s t : State) : Prop := ∀ r, t.getB r = s.getB r
/-- Every GF(1024) register is unchanged. -/
def KeepsE (s t : State) : Prop := ∀ r, t.getE r = s.getE r
/-- Every integer register is unchanged. -/
def KeepsN (s t : State) : Prop := ∀ r, t.getN r = s.getN r
/-- Every word of SM reads as before. -/
def KeepsSm (s t : State) : Prop := ∀ a, t.sm.read? a = s.sm.read? a
/-- Every word of XM reads as before. -/
def KeepsXm (s t : State) : Prop := ∀ a, t.xm.read? a = s.xm.read? a
/-- Every word of CM reads as before. -/
def KeepsCm (s t : State) : Prop := ∀ a, t.cm.read? a = s.cm.read? a
/-- VAR, MID and CNT are unchanged. -/
def KeepsPass (s t : State) : Prop := t.var = s.var ∧ t.mid = s.mid ∧ t.cnt = s.cnt
/-- V and RC are unchanged. -/
def KeepsResult (s t : State) : Prop := t.v = s.v ∧ t.rc = s.rc
/-- The exception registers ECODE, EPC and EINFO are unchanged. -/
def KeepsFaultRegs (s t : State) : Prop := t.ecode = s.ecode ∧ t.epc = s.epc ∧ t.einfo = s.einfo
/-- CTRL, STATUS and STOP_REQ are unchanged. -/
def KeepsRun (s t : State) : Prop :=
  t.ie = s.ie ∧ t.busy = s.busy ∧ t.done = s.done ∧ t.err = s.err ∧ t.werr = s.werr ∧ t.stopReq = s.stopReq
/-- The model's own fields are unchanged. -/
def KeepsModel (s t : State) : Prop := t.host = s.host ∧ t.hostData = s.hostData ∧ t.draws = s.draws
/-- Every register file is unchanged. -/
def KeepsRegs (s t : State) : Prop := KeepsB s t ∧ KeepsE s t ∧ KeepsN s t
/-- All of memory reads as before. -/
def KeepsMem (s t : State) : Prop := KeepsSm s t ∧ KeepsXm s t ∧ KeepsCm s t
/-- The exception registers, the run state and the model's own fields are unchanged. -/
def KeepsControl (s t : State) : Prop := KeepsFaultRegs s t ∧ KeepsRun s t ∧ KeepsModel s t

/-- The outcome is a next state of which P holds. -/
def Completes (o : Host.Outcome State Fault Refusal) (P : State → Prop) : Prop := ∃ t, o = .next t ∧ P t

/-- The fault procedure (60_exceptions.md R345), written out: the next state is s with these five fields. -/
def Faults (o : Host.Outcome State Fault Refusal) (s : State) (code : BitVec 8) (info : Word) : Prop :=
  o = .next { s with ecode := code, epc := s.pc, einfo := info, err := true, busy := false }

/-- B[rd] <- x, Z by x, PC + 1, nothing else. -/
def WritesB (s : State) (rd : RegIdx) (x : Sym) (t : State) : Prop :=
  t.getB rd = x ∧ (∀ r, r ≠ rd → t.getB r = s.getB r) ∧ (t.z = true ↔ x = 0#5) ∧ t.pc = s.pc + 1#16 ∧
  KeepsE s t ∧ KeepsN s t ∧ KeepsMem s t ∧ KeepsPass s t ∧ KeepsResult s t ∧ KeepsControl s t

/-- E[rd] <- x, Z by x, PC + 1, nothing else. -/
def WritesE (s : State) (rd : RegIdx) (x : Ext) (t : State) : Prop :=
  t.getE rd = x ∧ (∀ r, r ≠ rd → t.getE r = s.getE r) ∧ (t.z = true ↔ x = 0#10) ∧ t.pc = s.pc + 1#16 ∧
  KeepsB s t ∧ KeepsN s t ∧ KeepsMem s t ∧ KeepsPass s t ∧ KeepsResult s t ∧ KeepsControl s t

/-- N[rd] <- x, Z by x, PC + 1, nothing else. -/
def WritesN (s : State) (rd : RegIdx) (x : Word) (t : State) : Prop :=
  t.getN rd = x ∧ (∀ r, r ≠ rd → t.getN r = s.getN r) ∧ (t.z = true ↔ x = 0#32) ∧ t.pc = s.pc + 1#16 ∧
  KeepsB s t ∧ KeepsE s t ∧ KeepsMem s t ∧ KeepsPass s t ∧ KeepsResult s t ∧ KeepsControl s t

/-- N[rd] is the descriptor of len words at its old base. -/
def Describes (s t : State) (rd : RegIdx) (len : Nat) : Prop :=
  t.getN rd = BitVec.ofNat 16 len ++ (s.getN rd).extractLsb' 0 16 ∧ (∀ r, r ≠ rd → t.getN r = s.getN r)

/-- The words xs stand at base, base + 1, ... of m', every other word of m' reads as in m. -/
def Stored {w : Nat} (m m' : Memory w) (base : Nat) (xs : List (BitVec w)) : Prop :=
  (∀ j (h : j < xs.length), m'.read? (base + j) = some xs[j]) ∧
  (∀ a, a < base ∨ base + xs.length ≤ a → m'.read? a = m.read? a)

/-- A polynomial result through N[rd] (20_memory.md R83): the words at the old base, the descriptor's len, Z by z,
PC + 1, nothing else. -/
def WritesPoly (s : State) (rd : RegIdx) (xs : List Ext) (z : Prop) (t : State) : Prop :=
  Stored s.xm t.xm (descBase (s.getN rd)) xs ∧ Describes s t rd xs.length ∧ (t.z = true ↔ z) ∧ t.pc = s.pc + 1#16 ∧
  KeepsB s t ∧ KeepsE s t ∧ KeepsSm s t ∧ KeepsCm s t ∧ KeepsPass s t ∧ KeepsResult s t ∧ KeepsControl s t

/-- Nothing changes but PC. -/
def OnlyPc (s : State) (pc : BitVec 16) (t : State) : Prop :=
  t.pc = pc ∧ t.z = s.z ∧ KeepsRegs s t ∧ KeepsMem s t ∧ KeepsPass s t ∧ KeepsResult s t ∧ KeepsControl s t

/-- Every coefficient is 0, which the empty list has too (42_polynomial.md R220). -/
def AllZero (xs : List Ext) : Prop := ∀ x ∈ xs, x = 0#10

/-- A region of len words at base lies in a memory of size words (20_memory.md R82, R83). -/
def Fits (size base len : Nat) : Prop := len = 0 ∨ base + len ≤ size

/-- The SM region of N[k] is valid and holds the words xs. -/
def SmHolds (s : State) (k : RegIdx) (xs : List Sym) : Prop :=
  Fits Config.smSize (descBase (s.getN k)) (descLen (s.getN k)) ∧ xs.length = descLen (s.getN k) ∧
  ∀ j (h : j < xs.length), s.sm.read? (descBase (s.getN k) + j) = some xs[j]

/-- The XM region of N[k] is valid and holds the words xs. -/
def XmHolds (s : State) (k : RegIdx) (xs : List Ext) : Prop :=
  Fits Config.xmSize (descBase (s.getN k)) (descLen (s.getN k)) ∧ xs.length = descLen (s.getN k) ∧
  ∀ j (h : j < xs.length), s.xm.read? (descBase (s.getN k) + j) = some xs[j]

/-- A result of len words fits at the base of N[rd] in XM. -/
def DestFits (s : State) (rd : RegIdx) (len : Nat) : Prop := Fits Config.xmSize (descBase (s.getN rd)) len

/-- The opcode map (30_encoding.md R117): OP, mask, match. -/
def opcodeRows : List (BitVec 6 × Word × Word) :=
  [(0x01, 0xFFFFFFFF, 0x04000000), (0x02, 0xFFFFFFFF, 0x08000000), (0x03, 0xFC3F0000, 0x0C000000),
   (0x04, 0xFC7F0000, 0x10000000), (0x08, 0xFC7FFFE0, 0x20000000), (0x09, 0xFC01FFFF, 0x24000000),
   (0x0A, 0xFC01FFFF, 0x28000000), (0x0B, 0xFC0FFFFF, 0x2C000000), (0x0C, 0xFC01FFFF, 0x30000000),
   (0x0D, 0xFC0FFFFF, 0x34000000), (0x10, 0xFC7FFC00, 0x40000000), (0x11, 0xFC01FFFF, 0x44000000),
   (0x12, 0xFC01FFFF, 0x48000000), (0x13, 0xFC0FFFFF, 0x4C000000), (0x14, 0xFC01FFFF, 0x50000000),
   (0x15, 0xFC0FFFFF, 0x54000000), (0x16, 0xFC0FFFFF, 0x58000000), (0x17, 0xFC0FFFFF, 0x5C000000),
   (0x18, 0xFC7F0000, 0x60000000), (0x19, 0xFC7F0000, 0x64000000), (0x1A, 0xFC0F0000, 0x68000000),
   (0x1C, 0xFC0F0000, 0x70000000), (0x1D, 0xFC0F0000, 0x74000000), (0x1E, 0xFC0F0000, 0x78000000),
   (0x1F, 0xFC0F0000, 0x7C000000), (0x20, 0xFC0FFFFF, 0x80000000), (0x21, 0xFC01FFFF, 0x84000000)] ++
  [(0x22, 0xFC01FFFF, 0x88000000), (0x23, 0xFC01FFFF, 0x8C000000), (0x24, 0xFC010000, 0x90000000),
   (0x25, 0xFC01FFFF, 0x94000000), (0x26, 0xFC0FFFFF, 0x98000000), (0x28, 0xFFFFFFFC, 0xA0000000),
   (0x29, 0xFFFFFFFF, 0xA4000000), (0x2A, 0xFF8FFFFF, 0xA8000000), (0x2B, 0xFF8FFFFF, 0xAC000000),
   (0x2C, 0xFC7FFFFF, 0xB0000000), (0x2D, 0xFFFFFFFF, 0xB4000000), (0x2E, 0xFC7FFFFF, 0xB8000000),
   (0x30, 0xFC7FFFFF, 0xC0000000), (0x31, 0xFC0FFFFF, 0xC4000000), (0x32, 0xFC01FFFF, 0xC8000000),
   (0x33, 0xFC003FFF, 0xCC000000), (0x34, 0xFC0FFFFF, 0xD0000000), (0x35, 0xFFFFFFFF, 0xD4000000)]

/-- The four cases of 30_encoding.md R118. -/
def IllegalWord (w : Word) : Prop :=
  (∀ r ∈ opcodeRows, r.1 ≠ w.extractLsb' 26 6) ∨
  (∃ r ∈ opcodeRows, r.1 = w.extractLsb' 26 6 ∧ w &&& r.2.1 ≠ r.2.2) ∨
  (w.extractLsb' 26 6 = 0x03#6 ∧ 5 ≤ (w.extractLsb' 22 4).toNat) ∨
  (w.extractLsb' 26 6 = 0x28#6 ∧ w.extractLsb' 0 2 = 3#2)

/-- The sequencer moves next, because no host event is listed or because the list gives it the turn (log 5); u is s
once the turn is taken off the list. -/
def Turn (s u : State) : Prop :=
  (s.host = [] ∧ u = s) ∨ ∃ rest, s.host = .wait :: rest ∧ u = { s with host := rest }

/-- The sequencer is about to fetch: it runs, no STOP is pending, and it moves next. -/
def Fetching (s u : State) : Prop := s.busy = true ∧ s.stopReq = false ∧ Turn s u

/-- The next event is a host write of x at the word offset off. -/
def HostWrites (s : State) (off : BitVec 16) (x : Word) (rest : List HostEvent) : Prop :=
  s.host = .write off 4 x :: rest

/-- The byte offsets of the window that the register map and the memory windows list (20_memory.md R73, R74); every other
is reserved (R75). -/
def ListedOffset (a : Nat) : Prop :=
  a < 0x0030 ∨ (0x0040 ≤ a ∧ a < 0x00A0) ∨ (0x1000 ≤ a ∧ a < 0x1400) ∨ (0x2000 ≤ a ∧ a < 0x2100) ∨
  (0x4000 ≤ a ∧ a < 0x5000)

/-- Nothing changes but what stands at the target, and the host's list. -/
def KeepsAllBut (tg : WindowTarget) (s t : State) : Prop :=
  (∀ r, tg ≠ .b r → t.getB r = s.getB r) ∧ (∀ r, tg ≠ .e r → t.getE r = s.getE r) ∧
  (∀ r, tg ≠ .n r → t.getN r = s.getN r) ∧ (∀ a, tg ≠ .sm a → t.sm.read? a = s.sm.read? a) ∧
  (∀ a, tg ≠ .xm a → t.xm.read? a = s.xm.read? a) ∧ (∀ a, tg ≠ .cm a → t.cm.read? a = s.cm.read? a) ∧
  (tg ≠ .var → t.var = s.var) ∧ (tg ≠ .mid → t.mid = s.mid) ∧ (tg ≠ .cnt → t.cnt = s.cnt) ∧
  (tg ≠ .flags → t.z = s.z ∧ t.v = s.v) ∧ t.pc = s.pc ∧ t.rc = s.rc ∧ KeepsFaultRegs s t ∧ KeepsRun s t ∧
  t.hostData = s.hostData ∧ t.draws = s.draws

/-- The step is a host read that gives x and changes nothing else. -/
def Gives (s : State) (rest : List HostEvent) (x : Word) : Prop := step s = .next { s with host := rest, hostData := x }

/-- A host read of a memory word, at its index, gives the word, or is refused where nothing has written it (log 2). -/
def GivesWord {w : Nat} (s : State) (rest : List HostEvent) (m : Memory w) (a : Nat) (r : Refusal) : Prop :=
  (∀ x, m.read? a = some x → Gives s rest (x.setWidth 32)) ∧ (m.read? a = none → step s = .refused r)

/-- What a read of an idle unit at each offset gives (20_memory.md R73-R76). -/
def ReadsAs (s : State) (off : BitVec 16) (rest : List HostEvent) : Prop :=
  (off = 0x0000#16 → Gives s rest 0x42470001#32) ∧
  (off = 0x0004#16 → Gives s rest (if s.ie = true then 1#32 else 0#32)) ∧
  (off = 0x000C#16 → Gives s rest 0#32) ∧ (off = 0x0010#16 → Gives s rest (s.pc.setWidth 32)) ∧
  (off = 0x0014#16 → Gives s rest (s.ecode.setWidth 32)) ∧ (off = 0x0018#16 → Gives s rest (s.epc.setWidth 32)) ∧
  (off = 0x001C#16 → Gives s rest s.einfo) ∧
  (off = 0x0020#16 → Gives s rest ((variantNumber s.var).setWidth 32)) ∧
  (off = 0x0024#16 → Gives s rest (s.mid.setWidth 32)) ∧ (off = 0x0028#16 → Gives s rest s.cnt) ∧
  (off = 0x002C#16 → Gives s rest ((BitVec.ofBool s.v ++ BitVec.ofBool s.z).setWidth 32)) ∧
  (∀ i : RegIdx, off.toNat = 0x0040 + 4 * i.toNat → Gives s rest ((s.getB i).setWidth 32)) ∧
  (∀ i : RegIdx, off.toNat = 0x0060 + 4 * i.toNat → Gives s rest ((s.getE i).setWidth 32)) ∧
  (∀ i : RegIdx, off.toNat = 0x0080 + 4 * i.toNat → Gives s rest (s.getN i)) ∧
  (∀ i < 256, off.toNat = 0x1000 + 4 * i → GivesWord s rest s.cm i (.unwrittenCommand i)) ∧
  (∀ i < 64, off.toNat = 0x2000 + 4 * i → GivesWord s rest s.xm i (.unwrittenExtension i)) ∧
  (∀ i < 1024, off.toNat = 0x4000 + 4 * i → GivesWord s rest s.sm i (.unwrittenSymbol i)) ∧
  (¬ListedOffset off.toNat → Gives s rest 0#32)

/-- The GF(32) coefficients m_0, ..., m_5 of a packed midstate (43_lfsr_checksum.md R242). -/
def midCoeff (m : Midstate) (k : Nat) : Sym := m.extractLsb' (5 * k) 5

/-- g_0, ..., g_5 of the generator polynomial, below x^6 (00_scope.md R22). -/
def genCoeff : Nat → Sym
  | 0 => 18#5
  | 1 => 29#5
  | 2 => 21#5
  | 3 => 20#5
  | 4 => 22#5
  | 5 => 29#5
  | _ => 0#5

/-- S_j for an adjusted residue d (44_correction.md R271), written out. -/
def syndromeAt (d : Midstate) (j : Nat) : Ext :=
  peval [embed (midCoeff d 0), embed (midCoeff d 1), embed (midCoeff d 2), embed (midCoeff d 3),
    embed (midCoeff d 4), embed (midCoeff d 5)] (betaPow (24 + j))

/-- CORR's report (44_correction.md R280): N[rd], RC, V, Z, PC + 1; MID, CNT, VAR and everything else but SM kept. -/
def Reports (s : State) (rd : RegIdx) (r : ResultCode) (w : Word) (t : State) : Prop :=
  t.getN rd = w ∧ (∀ k, k ≠ rd → t.getN k = s.getN k) ∧ t.rc = r ∧ (t.v = true ↔ r = .ok) ∧ (t.z = true ↔ w = 0#32) ∧
  t.pc = s.pc + 1#16 ∧ KeepsB s t ∧ KeepsE s t ∧ KeepsXm s t ∧ KeepsCm s t ∧ KeepsPass s t ∧ KeepsControl s t

end Sys2Proof.Claims

open Sys2Proof Sys2Proof.Machine Sys2Proof.Claims

/-! ## Encoding -/

/-- 30_encoding.md R117, R111-R113, R123: decoding the word of a well-formed command gives it back, for every command
and every operand value. -/
def Obligations.EncodeThenDecodeGivesTheCommand : Prop :=
  ∀ i : Instr, i.wellFormed = true → decode (encode i) = .ok i

/-- 30_encoding.md R119, R123: a word that decodes is the encoding of what it decodes to, and that is well formed; so a
command has one word. -/
def Obligations.DecodedWordIsTheEncoding : Prop :=
  ∀ (w : Word) (i : Instr), decode w = .ok i → i.wellFormed = true ∧ encode i = w

/-- 30_encoding.md R118: a word is illegal iff one of the four cases holds; fetching one takes ILLEGAL_COMMAND with the
word and changes nothing else, PC included; the all-zero word is illegal. -/
def Obligations.IllegalExactlyByTheFourCases : Prop :=
  (∀ w : Word, (∃ e, decode w = .error e) ↔ IllegalWord w) ∧
  (∀ (s u : State) (w : Word), Fetching s u → s.pc.toNat < Config.cmSize → s.cm.read? s.pc.toNat = some w →
    IllegalWord w → Faults (step s) u 1#8 w) ∧
  IllegalWord 0x00000000#32

/-- Words of the worked examples of the command rules decode to the command each stands for. -/
def Obligations.SampleWordsDecode : Prop :=
  decode 0x0C400007#32 = .ok (.bc 1#4 7#16) ∧ decode 0x24140000#32 = .ok (.addb 0#3 1#3 2#3) ∧
  decode 0x408000C1#32 = .ok (.lie 1#3 0x0C1#10) ∧ decode 0x6910FFFF#32 = .ok (.naddi 2#3 1#3 0xFFFF#16) ∧
  decode 0x91940002#32 = .ok (.pmulx 3#3 1#3 2#3 2#16) ∧ decode 0xA8300000#32 = .ok (.lfb 3#3) ∧
  decode 0xCF270000#32 = .ok (.forney 6#3 2#3 3#3 4#3)

/-! ## Reset, invariant, step -/

/-- 10_state.md R56, 70_reset_and_hazards.md R380: the control state after reset, that no step runs before START, that IRQ
is 0, and that a hard reset, in any state, leaves this state. The zero B, E and N registers are the MODEL's choice (log 1),
that an unwritten word reads as nothing is log 2, and that a hard reset keeps the model's own fields is log 18. -/
def Obligations.ResetState : Prop :=
  State.reset.pc = 0x0000#16 ∧ State.reset.z = false ∧ State.reset.v = false ∧ variantNumber State.reset.var = 1#2 ∧
  State.reset.mid = 0x00000001#30 ∧ State.reset.cnt = 0#32 ∧ resultNumber State.reset.rc = 0#4 ∧
  State.reset.ecode = 0#8 ∧ State.reset.epc = 0#16 ∧ State.reset.einfo = 0#32 ∧ State.reset.ie = false ∧
  State.reset.busy = false ∧ State.reset.done = false ∧ State.reset.err = false ∧ State.reset.werr = false ∧
  State.reset.stopReq = false ∧ State.reset.irq = false ∧ step State.reset = .next State.reset ∧
  (∀ (s : State) rest, s.host = .hardReset :: rest →
    step s = .next { State.reset with host := rest, hostData := s.hostData, draws := s.draws }) ∧
  (∀ r, State.reset.getB r = 0#5 ∧ State.reset.getE r = 0#10 ∧ State.reset.getN r = 0#32) ∧
  (∀ a, State.reset.sm.read? a = none ∧ State.reset.xm.read? a = none ∧ State.reset.cm.read? a = none)

/-- The invariant holds right after reset (20_memory.md R80, 60_exceptions.md R340, 10_state.md R49, R51). -/
def Obligations.ResetSatisfiesInvariant : Prop := State.reset.Inv

/-- Every step, a command's, a host access's or a reset's, keeps the invariant: the memories' canonical form and range
(20_memory.md R80), the legal codes (60_exceptions.md R340; 10_state.md R42), and the run state's relations (10_state.md
R49, R51). -/
def Obligations.StepKeepsInvariant : Prop := ∀ s t : State, s.Inv → step s = .next t → t.Inv

/-- 45_sequencer_data.md R311: where the word at PC decodes to i, the step of a running unit is exec of i; a host list
that gives the sequencer its turn loses that one entry (log 5). -/
def Obligations.StepRunsTheDecodedCommand : Prop :=
  ∀ (s u : State) (w : Word) (i : Instr), Fetching s u → s.pc.toNat < Config.cmSize →
    s.cm.read? s.pc.toNat = some w → decode w = .ok i → step s = exec i u

/-- 10_state.md R52: an idle unit does nothing until START; that its turn passes is the model's own (log 6). -/
def Obligations.IdleUnitWaits : Prop :=
  ∀ s u : State, s.busy = false → s.stopReq = false → Turn s u → step s = .next u

/-- 60_exceptions.md R344, 10_state.md R47, R51: a CTRL write without SRST sets IE from bit 0 and nothing else but, with
STOP, the STOP_REQ of a running unit (an idle one clears it); at the next boundary, before any fetch, the sequencer clears
it and takes ABORTED(0) with EPC = PC. How a host write arrives is log 5. -/
def Obligations.StopAbortsAtTheNextBoundary : Prop :=
  (∀ (s : State) (x : Word) rest, HostWrites s 0x0004#16 x rest → x.getLsbD 1 = true → x.getLsbD 2 = false →
    step s = .next { s with host := rest, ie := x.getLsbD 0, stopReq := s.busy }) ∧
  (∀ (s : State) (x : Word) rest, HostWrites s 0x0004#16 x rest → x.getLsbD 1 = false → x.getLsbD 2 = false →
    step s = .next { s with host := rest, ie := x.getLsbD 0, stopReq := s.busy && s.stopReq }) ∧
  (∀ s u : State, s.busy = true → s.stopReq = true → Turn s u →
    step s = .next { u with stopReq := false, ecode := 9#8, epc := s.pc, einfo := 0#32, err := true, busy := false })

/-- 60_exceptions.md R341: a fetch at PC >= CM_SIZE takes FETCH_RANGE with the PC; the branch that led there completed. -/
def Obligations.FetchBeyondCommandMemoryFaults : Prop :=
  (∀ s u : State, Fetching s u → Config.cmSize ≤ s.pc.toNat → Faults (step s) u 2#8 (s.pc.setWidth 32)) ∧
  (∀ (s : State) (dest : BitVec 16), Config.cmSize ≤ dest.toNat → Completes (exec (.bc 0#4 dest) s) (OnlyPc s dest))

/-! ## Sequencer, integer and data movement -/

/-- 45_sequencer_data.md R300, R301: HALT sets DONE and stops, PC kept, IRQ rising if IE = 1; NOP only advances PC.
60_exceptions.md R350: IRQ is IE and (DONE or ERR), in every state. -/
def Obligations.HaltAndNop : Prop :=
  (∀ s : State, Completes (exec .halt s) fun t =>
    t.done = true ∧ t.busy = false ∧ t.pc = s.pc ∧ t.z = s.z ∧ (s.ie = true → t.irq = true) ∧ t.ie = s.ie ∧
    t.err = s.err ∧ t.werr = s.werr ∧ t.stopReq = s.stopReq ∧ KeepsRegs s t ∧ KeepsMem s t ∧ KeepsPass s t ∧
    KeepsResult s t ∧ KeepsFaultRegs s t ∧ KeepsModel s t) ∧
  (∀ s : State, Completes (exec .nop s) (OnlyPc s (s.pc + 1#16))) ∧
  (∀ s : State, s.irq = true ↔ s.ie = true ∧ (s.done = true ∨ s.err = true))

/-- 30_encoding.md R116 (and 45_sequencer_data.md R302): BC with each condition goes to its absolute target or on; a word
with a condition of 5 or more is illegal. -/
def Obligations.BranchTakesItsCondition : Prop :=
  ∀ (s : State) (dest : BitVec 16),
    Completes (exec (.bc 0#4 dest) s) (OnlyPc s dest) ∧
    Completes (exec (.bc 1#4 dest) s) (OnlyPc s (if s.z = true then dest else s.pc + 1#16)) ∧
    Completes (exec (.bc 2#4 dest) s) (OnlyPc s (if s.z = false then dest else s.pc + 1#16)) ∧
    Completes (exec (.bc 3#4 dest) s) (OnlyPc s (if s.v = true then dest else s.pc + 1#16)) ∧
    Completes (exec (.bc 4#4 dest) s) (OnlyPc s (if s.v = false then dest else s.pc + 1#16)) ∧
    (∀ cond : BitVec 4, 5 ≤ cond.toNat → decode (encode (.bc cond dest)) = .error .reservedCondition)

/-- 45_sequencer_data.md R303: DBNZ decrements modulo 2^32 and branches iff the result is not 0; no flag changes. -/
def Obligations.DbnzCountsDown : Prop :=
  ∀ (s : State) (rd : RegIdx) (dest : BitVec 16), Completes (exec (.dbnz rd dest) s) fun t =>
    (t.getN rd).toNat = ((s.getN rd).toNat + (2 ^ 32 - 1)) % 2 ^ 32 ∧ (∀ r, r ≠ rd → t.getN r = s.getN r) ∧
    t.pc = (if (s.getN rd).toNat = 1 then s.pc + 1#16 else dest) ∧ t.z = s.z ∧
    KeepsB s t ∧ KeepsE s t ∧ KeepsMem s t ∧ KeepsPass s t ∧ KeepsResult s t ∧ KeepsControl s t

/-- 45_sequencer_data.md R304, R305, R306: LIN zero-extends, LHN keeps the low half, NADDI adds the sign-extended
immediate modulo 2^32. -/
def Obligations.IntegerCommands : Prop :=
  ∀ (s : State) (rd ra : RegIdx) (imm : BitVec 16),
    Completes (exec (.lin rd imm) s) (WritesN s rd (BitVec.ofNat 32 imm.toNat)) ∧
    Completes (exec (.lhn rd imm) s) (WritesN s rd (BitVec.ofNat 32 (imm.toNat * 2 ^ 16 + (s.getN rd).toNat % 2 ^ 16))) ∧
    Completes (exec (.naddi rd ra imm) s) (WritesN s rd (BitVec.ofInt 32 ((s.getN ra).toNat + imm.toInt)))

/-- 45_sequencer_data.md R307, R309, 20_memory.md R81: LDS and LDX load the word at N[ra][15:0] + imm16, a sum without
wrap, and fault at or above the memory's size; an unwritten word is refused, as 10_state.md R57 asks of a model. -/
def Obligations.LoadCommands : Prop :=
  ∀ (s : State) (rd ra : RegIdx) (imm : BitVec 16),
    (∀ x, s.ea ra imm < Config.smSize → s.sm.read? (s.ea ra imm) = some x →
      Completes (exec (.lds rd ra imm) s) (WritesB s rd x)) ∧
    (∀ x, s.ea ra imm < Config.xmSize → s.xm.read? (s.ea ra imm) = some x →
      Completes (exec (.ldx rd ra imm) s) (WritesE s rd x)) ∧
    (Config.smSize ≤ s.ea ra imm → Faults (exec (.lds rd ra imm) s) s 3#8 (BitVec.ofNat 32 (s.ea ra imm))) ∧
    (Config.xmSize ≤ s.ea ra imm → Faults (exec (.ldx rd ra imm) s) s 4#8 (BitVec.ofNat 32 (s.ea ra imm))) ∧
    (s.ea ra imm < Config.smSize → s.sm.read? (s.ea ra imm) = none →
      exec (.lds rd ra imm) s = .refused (.unwrittenSymbol (s.ea ra imm))) ∧
    (s.ea ra imm < Config.xmSize → s.xm.read? (s.ea ra imm) = none →
      exec (.ldx rd ra imm) s = .refused (.unwrittenExtension (s.ea ra imm))) ∧
    s.ea ra imm = (s.getN ra).toNat % 2 ^ 16 + imm.toNat

/-- 45_sequencer_data.md R308, R310: STS and STX store the rd register's value at the effective address, write no flag,
and fault at or above the memory's size. -/
def Obligations.StoreCommands : Prop :=
  ∀ (s : State) (rd ra : RegIdx) (imm : BitVec 16),
    (s.ea ra imm < Config.smSize → Completes (exec (.sts rd ra imm) s) fun t =>
      Stored s.sm t.sm (s.ea ra imm) [s.getB rd] ∧ KeepsXm s t ∧ KeepsCm s t ∧ KeepsRegs s t ∧ t.z = s.z ∧
      t.pc = s.pc + 1#16 ∧ KeepsPass s t ∧ KeepsResult s t ∧ KeepsControl s t) ∧
    (s.ea ra imm < Config.xmSize → Completes (exec (.stx rd ra imm) s) fun t =>
      Stored s.xm t.xm (s.ea ra imm) [s.getE rd] ∧ KeepsSm s t ∧ KeepsCm s t ∧ KeepsRegs s t ∧ t.z = s.z ∧
      t.pc = s.pc + 1#16 ∧ KeepsPass s t ∧ KeepsResult s t ∧ KeepsControl s t) ∧
    (Config.smSize ≤ s.ea ra imm → Faults (exec (.sts rd ra imm) s) s 3#8 (BitVec.ofNat 32 (s.ea ra imm))) ∧
    (Config.xmSize ≤ s.ea ra imm → Faults (exec (.stx rd ra imm) s) s 4#8 (BitVec.ofNat 32 (s.ea ra imm)))

/-! ## GF(32) and GF(1024) -/

/-- 40_gf32.md R155, R156, R157, R159, R160: what LIB, ADDB, MULB, POWB and NEGB write. R150, R152: 1 is the identity, and
the powers of z, with z^5 = z^3 + 1, are what the field polynomial makes them; with Gf32FieldLaws that fixes gf32Mul, as
Gf32PowerLaws fixes gf32Pow. -/
def Obligations.Gf32Commands : Prop :=
  ∀ (s : State) (rd ra rb : RegIdx) (imm : BitVec 5),
    Completes (exec (.lib rd imm) s) (WritesB s rd imm) ∧
    Completes (exec (.addb rd ra rb) s) (WritesB s rd (s.getB ra ^^^ s.getB rb)) ∧
    Completes (exec (.mulb rd ra rb) s) (WritesB s rd (gf32Mul (s.getB ra) (s.getB rb))) ∧
    Completes (exec (.powb rd ra rb) s) (WritesB s rd (gf32Pow (s.getB ra) (s.getN rb).toNat)) ∧
    Completes (exec (.negb rd ra) s) (WritesB s rd (s.getB ra)) ∧
    gf32Mul 1#5 imm = imm ∧ gf32Mul 2#5 2#5 = 4#5 ∧ gf32Mul 4#5 2#5 = 8#5 ∧ gf32Mul 8#5 2#5 = 16#5 ∧
    gf32Mul 16#5 2#5 = 9#5

/-- 40_gf32.md R158, R153: INVB of a nonzero element writes the one x with B[ra]·x = 1; of zero it takes DIV_ZERO(0). -/
def Obligations.InvbInvertsOrFaults : Prop :=
  ∀ (s : State) (rd ra : RegIdx),
    (s.getB ra ≠ 0#5 → ∃ x, gf32Mul (s.getB ra) x = 1#5 ∧ (∀ y, gf32Mul (s.getB ra) y = 1#5 → y = x) ∧
      Completes (exec (.invb rd ra) s) (WritesB s rd x)) ∧
    (s.getB ra = 0#5 → Faults (exec (.invb rd ra) s) s 5#8 0#32)

/-- 40_gf32.md R162: the field laws of GF(32). -/
def Obligations.Gf32FieldLaws : Prop :=
  ∀ a b c : Sym, (a ^^^ b) ^^^ c = a ^^^ (b ^^^ c) ∧ gf32Mul a (b ^^^ c) = gf32Mul a b ^^^ gf32Mul a c ∧
    (a ≠ 0#5 → gf32Mul a (gf32Inv a) = 1#5) ∧ gf32Mul (gf32Mul a b) c = gf32Mul a (gf32Mul b c) ∧
    gf32Mul a b = gf32Mul b a

/-- 40_gf32.md R154: repeated squaring multiplies n copies of a, gives 1 at n = 0, 0 for a = 0 and n >= 1, and depends
on n mod 31 only for a ≠ 0. -/
def Obligations.Gf32PowerLaws : Prop :=
  ∀ (a : Sym) (n : Nat), gf32Pow a 0 = 1#5 ∧ gf32Pow a (n + 1) = gf32Mul (gf32Pow a n) a ∧ gf32Pow 0#5 (n + 1) = 0#5 ∧
    (a ≠ 0#5 → gf32Pow a n = gf32Pow a (n % 31))

/-- 41_gf1024.md R188-R190, R192-R194: what LIE, ADDE, MULE, POWE, NEGE and EMB write. R180, R181, R183, R185: an embedded
element has high coordinate 0, ζ moves it to the high coordinate, and ζ² = ζ + 1, which with Gf1024FieldLaws fixes
gf1024Mul. R186: a power is that many factors. -/
def Obligations.Gf1024Commands : Prop :=
  ∀ (s : State) (rd ra rb : RegIdx) (imm : BitVec 10),
    Completes (exec (.lie rd imm) s) (WritesE s rd imm) ∧
    Completes (exec (.adde rd ra rb) s) (WritesE s rd (s.getE ra ^^^ s.getE rb)) ∧
    Completes (exec (.mule rd ra rb) s) (WritesE s rd (gf1024Mul (s.getE ra) (s.getE rb))) ∧
    Completes (exec (.powe rd ra rb) s) (WritesE s rd (gf1024Pow (s.getE ra) (s.getN rb).toNat)) ∧
    Completes (exec (.nege rd ra) s) (WritesE s rd (s.getE ra)) ∧
    Completes (exec (.emb rd ra) s) (WritesE s rd (0#5 ++ s.getB ra)) ∧
    (∀ b : Sym, embed b = 0#5 ++ b ∧ gf1024Mul 0x020#10 (embed b) = b ++ 0#5) ∧ gf1024Mul 0x020#10 0x020#10 = 0x021#10 ∧
    (∀ (x : Ext) (n : Nat), gf1024Pow x 0 = 1#10 ∧ gf1024Pow x (n + 1) = gf1024Mul (gf1024Pow x n) x)

/-- 41_gf1024.md R191, R184: INVE of a nonzero element writes the one x with E[ra]·x = 1; of zero it takes DIV_ZERO(0). -/
def Obligations.InveInvertsOrFaults : Prop :=
  ∀ (s : State) (rd ra : RegIdx),
    (s.getE ra ≠ 0#10 → ∃ x, gf1024Mul (s.getE ra) x = 1#10 ∧ (∀ y, gf1024Mul (s.getE ra) y = 1#10 → y = x) ∧
      Completes (exec (.inve rd ra) s) (WritesE s rd x)) ∧
    (s.getE ra = 0#10 → Faults (exec (.inve rd ra) s) s 5#8 0#32)

/-- 41_gf1024.md R195: PRJ writes the low coordinate of an element of the base subfield, and takes NOT_IN_BASE with the
10-bit value otherwise. -/
def Obligations.PrjProjectsOrFaults : Prop :=
  ∀ (s : State) (rd ra : RegIdx),
    ((s.getE ra).extractLsb' 5 5 = 0#5 → Completes (exec (.prj rd ra) s) (WritesB s rd ((s.getE ra).extractLsb' 0 5))) ∧
    ((s.getE ra).extractLsb' 5 5 ≠ 0#5 → Faults (exec (.prj rd ra) s) s 6#8 (BitVec.ofNat 32 (s.getE ra).toNat))

/-- 41_gf1024.md R196: embedding commutes with multiplication, nonzero elements invert, GF(1024) is a field. -/
def Obligations.Gf1024FieldLaws : Prop :=
  (∀ a b : Sym, gf1024Mul (embed a) (embed b) = embed (gf32Mul a b)) ∧
  (∀ x : Ext, x ≠ 0#10 → gf1024Mul x (gf1024Inv x) = 1#10) ∧
  (∀ x y z : Ext, (x ^^^ y) ^^^ z = x ^^^ (y ^^^ z) ∧ gf1024Mul x (y ^^^ z) = gf1024Mul x y ^^^ gf1024Mul x z ∧
    gf1024Mul (gf1024Mul x y) z = gf1024Mul x (gf1024Mul y z) ∧ gf1024Mul x y = gf1024Mul y x)

/-- 41_gf1024.md R197: the 32nd power is the conjugate, whose fixed points are exactly the embedded elements. -/
def Obligations.FrobeniusIsConjugation : Prop :=
  ∀ x : Ext, gf1024Pow x 32 = extOf (lowCoord x ^^^ highCoord x) (highCoord x) ∧
    (gf1024Pow x 32 = x ↔ ∃ b : Sym, x = embed b)

/-- 00_scope.md R23: β has order 1023, its powers are all the nonzero elements, and positions 0..1022 are distinct. -/
def Obligations.BetaHasFullPeriod : Prop :=
  (∀ k, betaPow k = 1#10 ↔ 1023 ∣ k) ∧ (∀ x : Ext, x ≠ 0#10 → ∃ k < 1023, betaPow k = x) ∧
  (∀ i j, i < 1023 → j < 1023 → betaPow i = betaPow j → i = j)

/-! ## Polynomials -/

/-- 42_polynomial.md R213, R219: PEMB embeds an SM polynomial into XM; PDER writes the formal derivative, of length
len A - 1 (0 for len A <= 1), odd powers keeping their coefficient. -/
def Obligations.EmbedAndDerivativeCommands : Prop :=
  ∀ (s : State) (rd ra : RegIdx),
    (∀ a, SmHolds s ra a → DestFits s rd a.length →
      Completes (exec (.pemb rd ra) s) (WritesPoly s rd (a.map embed) (∀ x ∈ a, x = 0#5))) ∧
    (∀ a d, XmHolds s ra a → d.length = a.length - 1 →
      (∀ k (h : k < d.length), d[k] = if (k + 1) % 2 = 1 then coeff a (k + 1) else 0#10) →
      DestFits s rd d.length → Completes (exec (.pder rd ra) s) (WritesPoly s rd d (AllZero d)))

/-- 42_polynomial.md R214, R215: PEVB and PEVE write the sum of a_k·x^k at the point E[rb], 0 for the empty list; R211: that
is peval, at every point. -/
def Obligations.EvaluationCommands : Prop :=
  ∀ (s : State) (rd ra rb : RegIdx),
    (∀ a, SmHolds s ra a → Completes (exec (.pevb rd ra rb) s) (WritesE s rd
      (xorSum ((List.range a.length).map fun k => gf1024Mul (embed (a.getD k 0#5)) (gf1024Pow (s.getE rb) k))))) ∧
    (∀ a, XmHolds s ra a → Completes (exec (.peve rd ra rb) s) (WritesE s rd
      (xorSum ((List.range a.length).map fun k => gf1024Mul (coeff a k) (gf1024Pow (s.getE rb) k))))) ∧
    (∀ (a : List Ext) (x : Ext),
      peval a x = xorSum ((List.range a.length).map fun k => gf1024Mul (coeff a k) (gf1024Pow x k)))

/-- 42_polynomial.md R216, R217: PMUL writes the convolution, untrimmed; PMULX its first d coefficients; a destination
may overlap a source. -/
def Obligations.ProductCommands : Prop :=
  ∀ (s : State) (rd ra rb : RegIdx) (a b : List Ext), XmHolds s ra a → XmHolds s rb b →
    (DestFits s rd (pmul a b).length → Completes (exec (.pmul rd ra rb) s)
      (WritesPoly s rd (pmul a b) (AllZero (pmul a b)))) ∧
    (∀ d : BitVec 16, DestFits s rd (min d.toNat (pmul a b).length) → Completes (exec (.pmulx rd ra rb d) s)
      (WritesPoly s rd ((pmul a b).take d.toNat) (AllZero ((pmul a b).take d.toNat)))) ∧
    (pmul a b).length = (if a.length = 0 ∨ b.length = 0 then 0 else a.length + b.length - 1)

/-- 42_polynomial.md R218: PREM writes the remainder, of length deg B, the largest index of a nonzero coefficient of B;
the zero divisor takes DIV_ZERO(0). -/
def Obligations.RemainderCommand : Prop :=
  ∀ (s : State) (rd ra rb : RegIdx) (a b : List Ext), XmHolds s ra a → XmHolds s rb b →
    (∀ db, db < b.length → coeff b db ≠ 0#10 → (∀ k, db < k → coeff b k = 0#10) → DestFits s rd db →
      (premBy a b db).length = db ∧
      Completes (exec (.prem rd ra rb) s) (WritesPoly s rd (premBy a b db) (AllZero (premBy a b db)))) ∧
    (AllZero b → Faults (exec (.prem rd ra rb) s) s 5#8 0#32)

/-- 42_polynomial.md R218: what PREM writes is a remainder: the dividend is a multiple of the divisor plus it, coefficient
by coefficient. -/
def Obligations.RemainderIsARemainder : Prop :=
  ∀ (a b : List Ext) (db : Nat), db < b.length → coeff b db ≠ 0#10 → (∀ k, db < k → coeff b k = 0#10) →
    (premBy a b db).length = db ∧
    ∃ q : List Ext, ∀ k, coeff a k = coeff (pmul q b) k ^^^ coeff (premBy a b db) k

/-- 20_memory.md R82: base is the low half of a descriptor and len the high one; 00_scope.md R10: the memories' sizes.
20_memory.md R82, R83: the polynomial commands fault on their first source region when it is invalid, and a product
that does not fit its destination faults, with max(base, size). -/
def Obligations.PolynomialRangeFaults : Prop :=
  ∀ (s : State) (rd ra rb : RegIdx) (d : BitVec 16),
    (¬Fits Config.smSize (descBase (s.getN ra)) (descLen (s.getN ra)) →
      Faults (exec (.pemb rd ra) s) s 3#8 (BitVec.ofNat 32 (max (descBase (s.getN ra)) Config.smSize)) ∧
      Faults (exec (.pevb rd ra rb) s) s 3#8 (BitVec.ofNat 32 (max (descBase (s.getN ra)) Config.smSize))) ∧
    (¬Fits Config.xmSize (descBase (s.getN ra)) (descLen (s.getN ra)) →
      Faults (exec (.peve rd ra rb) s) s 4#8 (BitVec.ofNat 32 (max (descBase (s.getN ra)) Config.xmSize)) ∧
      Faults (exec (.pmul rd ra rb) s) s 4#8 (BitVec.ofNat 32 (max (descBase (s.getN ra)) Config.xmSize)) ∧
      Faults (exec (.pmulx rd ra rb d) s) s 4#8 (BitVec.ofNat 32 (max (descBase (s.getN ra)) Config.xmSize)) ∧
      Faults (exec (.prem rd ra rb) s) s 4#8 (BitVec.ofNat 32 (max (descBase (s.getN ra)) Config.xmSize)) ∧
      Faults (exec (.pder rd ra) s) s 4#8 (BitVec.ofNat 32 (max (descBase (s.getN ra)) Config.xmSize))) ∧
    (∀ a b, XmHolds s ra a → XmHolds s rb b → ¬DestFits s rd (pmul a b).length →
      Faults (exec (.pmul rd ra rb) s) s 4#8 (BitVec.ofNat 32 (max (descBase (s.getN rd)) Config.xmSize))) ∧
    (∀ w : Word, descBase w = w.toNat % 2 ^ 16 ∧ descLen w = w.toNat / 2 ^ 16) ∧
    Config.smSize = 1024 ∧ Config.xmSize = 64 ∧ Config.cmSize = 256

/-- 42_polynomial.md R221: evaluation turns products into products, and sums of lists of equal length into sums. -/
def Obligations.EvaluationIsAHomomorphism : Prop :=
  ∀ (a b : List Ext) (x : Ext), peval (pmul a b) x = gf1024Mul (peval a x) (peval b x) ∧
    (a.length = b.length → peval (List.zipWith (fun u v => u ^^^ v) a b) x = peval a x ^^^ peval b x)

/-! ## The checksum engine -/

/-- 43_lfsr_checksum.md R245, R246: SETV writes VAR only; LRST starts a pass. -/
def Obligations.SelectAndStartPass : Prop :=
  (∀ (s : State) (v : BitVec 2), v ≠ 3#2 → Completes (exec (.setv v) s) fun t =>
    variantNumber t.var = v ∧ t.mid = s.mid ∧ t.cnt = s.cnt ∧ t.z = s.z ∧ t.pc = s.pc + 1#16 ∧ KeepsRegs s t ∧
    KeepsMem s t ∧ KeepsResult s t ∧ KeepsControl s t) ∧
  (∀ s : State, Completes (exec .lrst s) fun t =>
    t.mid = (if s.var = .noChecksum then 0#30 else 1#30) ∧ t.cnt = 0#32 ∧ t.var = s.var ∧ t.z = s.z ∧
    t.pc = s.pc + 1#16 ∧ KeepsRegs s t ∧ KeepsMem s t ∧ KeepsResult s t ∧ KeepsControl s t)

/-- 43_lfsr_checksum.md R247, R248: LFB and LFM feed symbols in order (not under NoChecksum) and count them, saturating;
LFM faults on an invalid region. -/
def Obligations.FeedCommands : Prop :=
  ∀ (s : State) (ra : RegIdx),
    (Completes (exec (.lfb ra) s) fun t =>
      t.mid = (if s.var = .noChecksum then s.mid else lfsrStep s.mid (s.getB ra)) ∧
      t.cnt.toNat = min (s.cnt.toNat + 1) (2 ^ 32 - 1) ∧ t.var = s.var ∧ t.z = s.z ∧ t.pc = s.pc + 1#16 ∧
      KeepsRegs s t ∧ KeepsMem s t ∧ KeepsResult s t ∧ KeepsControl s t) ∧
    (∀ a, SmHolds s ra a → Completes (exec (.lfm ra) s) fun t =>
      t.mid = (if s.var = .noChecksum then s.mid else a.foldl lfsrStep s.mid) ∧
      t.cnt.toNat = min (s.cnt.toNat + a.length) (2 ^ 32 - 1) ∧ t.var = s.var ∧ t.z = s.z ∧ t.pc = s.pc + 1#16 ∧
      KeepsRegs s t ∧ KeepsMem s t ∧ KeepsResult s t ∧ KeepsControl s t) ∧
    (¬Fits Config.smSize (descBase (s.getN ra)) (descLen (s.getN ra)) →
      Faults (exec (.lfm ra) s) s 3#8 (BitVec.ofNat 32 (max (descBase (s.getN ra)) Config.smSize)))

/-- 43_lfsr_checksum.md R249: LCHK's four outcomes; after the last, MID is TARGET(VAR). -/
def Obligations.ChecksumCommand : Prop :=
  ∀ (s : State) (rd : RegIdx),
    (s.var = .noChecksum → Completes (exec (.lchk rd) s) fun t =>
      Describes s t rd 0 ∧ t.rc = .ok ∧ t.v = true ∧ t.z = s.z ∧ t.pc = s.pc + 1#16 ∧ KeepsB s t ∧ KeepsE s t ∧
      KeepsMem s t ∧ KeepsPass s t ∧ KeepsControl s t) ∧
    (s.var ≠ .noChecksum → Config.smSize < descBase (s.getN rd) + 6 →
      Faults (exec (.lchk rd) s) s 3#8 (BitVec.ofNat 32 (max (descBase (s.getN rd)) Config.smSize))) ∧
    (s.var ≠ .noChecksum → descBase (s.getN rd) + 6 ≤ Config.smSize → 1017 < s.cnt.toNat →
      Completes (exec (.lchk rd) s) fun t =>
        t.rc = .degenerateInput ∧ t.v = false ∧ t.z = s.z ∧ t.pc = s.pc + 1#16 ∧ KeepsRegs s t ∧ KeepsMem s t ∧
        KeepsPass s t ∧ KeepsControl s t) ∧
    (∀ tgt, target s.var = some tgt → descBase (s.getN rd) + 6 ≤ Config.smSize → s.cnt.toNat ≤ 1017 →
      Completes (exec (.lchk rd) s) fun t =>
        (let r := [0#5, 0#5, 0#5, 0#5, 0#5, 0#5].foldl lfsrStep s.mid ^^^ tgt
         Stored s.sm t.sm (descBase (s.getN rd))
          [midCoeff r 5, midCoeff r 4, midCoeff r 3, midCoeff r 2, midCoeff r 1, midCoeff r 0]) ∧
        Describes s t rd 6 ∧ t.mid = tgt ∧ t.cnt.toNat = s.cnt.toNat + 6 ∧ t.rc = .ok ∧ t.v = true ∧ t.var = s.var ∧
        t.z = s.z ∧ t.pc = s.pc + 1#16 ∧ KeepsB s t ∧ KeepsE s t ∧ KeepsXm s t ∧ KeepsCm s t ∧ KeepsControl s t)

/-- 43_lfsr_checksum.md R250, R251, R253: LVER's verdict, LRES's adjusted residue, SELFT's constant result. 00_scope.md R11,
43_lfsr_checksum.md R240, 10_state.md R40: each variant's number, target, initial midstate, and the root generator; the taps
are what LfsrStepIsReductionByG says. -/
def Obligations.VerdictCommands : Prop :=
  (variantNumber .noChecksum = 0#2 ∧ variantNumber .bech32 = 1#2 ∧ variantNumber .bech32m = 2#2) ∧
  (target .noChecksum = none ∧ target .bech32 = some 0x00000001#30 ∧ target .bech32m = some 0x2BC830A3#30) ∧
  (initMidstate .noChecksum = 0#30 ∧ initMidstate .bech32 = 1#30 ∧ initMidstate .bech32m = 1#30) ∧
  (∀ k, betaPow k = gf1024Pow 0x0C1#10 k) ∧
  ∀ s : State,
    (Completes (exec .lver s) fun t =>
      t.rc = (if s.var = .noChecksum then .ok
        else if s.cnt.toNat < 6 ∨ 1023 < s.cnt.toNat then .degenerateInput
        else if target s.var = some s.mid then .ok else .invalidChecksum) ∧
      (t.v = true ↔ t.rc = .ok) ∧ t.z = s.z ∧ t.pc = s.pc + 1#16 ∧ KeepsRegs s t ∧ KeepsMem s t ∧ KeepsPass s t ∧
      KeepsControl s t) ∧
    (∀ rd, (s.var = .noChecksum → Completes (exec (.lres rd) s) (WritesN s rd 0#32)) ∧
      (∀ tgt, target s.var = some tgt →
        Completes (exec (.lres rd) s) (WritesN s rd (BitVec.ofNat 32 (s.mid ^^^ tgt).toNat)))) ∧
    (Completes (exec .selft s) fun t =>
      t.rc = .ok ∧ t.v = true ∧ t.z = s.z ∧ t.pc = s.pc + 1#16 ∧ KeepsRegs s t ∧ KeepsMem s t ∧ KeepsPass s t ∧
      KeepsControl s t)

/-- 43_lfsr_checksum.md R242, R241: the LFSR step is (m·x + v) mod g(x), coefficient by coefficient: x^6 is replaced by
the lower part of g. -/
def Obligations.LfsrStepIsReductionByG : Prop :=
  ∀ (m : Midstate) (v : Sym) (k : Nat), k < 6 →
    midCoeff (lfsrStep m v) k =
      (if k = 0 then v else midCoeff m (k - 1)) ^^^ gf32Mul (midCoeff m 5) (genCoeff k)

/-- 43_lfsr_checksum.md R243, R244, R249: from any midstate, the six checksum symbols drive MID to TARGET; so after a
successful LCHK, LVER passes, under every variant. -/
def Obligations.ChecksumDrivesMidstateToTarget : Prop :=
  (∀ m tgt : Midstate, lfsrFeed m (checksumFrom m tgt) = tgt) ∧
  (∀ (s t : State) (rd : RegIdx), exec (.lchk rd) s = .next t → s.err = false → t.err = false → t.rc = .ok →
    Completes (exec .lver t) fun u => u.rc = .ok ∧ u.v = true)

/-! ## Correction -/

/-- 44_correction.md R272: SYND writes no syndrome under NoChecksum and else S_0, S_1, S_2 of the adjusted residue;
a destination that does not fit faults. -/
def Obligations.SyndromeCommand : Prop :=
  ∀ (s : State) (rd : RegIdx),
    (s.var = .noChecksum → Completes (exec (.synd rd) s) (WritesPoly s rd [] True)) ∧
    (∀ tgt, target s.var = some tgt → DestFits s rd 3 → Completes (exec (.synd rd) s)
      (WritesPoly s rd [syndromeAt (s.mid ^^^ tgt) 0, syndromeAt (s.mid ^^^ tgt) 1, syndromeAt (s.mid ^^^ tgt) 2]
        (∀ j < 3, syndromeAt (s.mid ^^^ tgt) j = 0#10))) ∧
    (s.var ≠ .noChecksum → ¬DestFits s rd 3 →
      Faults (exec (.synd rd) s) s 4#8 (BitVec.ofNat 32 (max (descBase (s.getN rd)) Config.xmSize)))

/-- 44_correction.md R271: the three syndromes are 0 iff the adjusted residue is 0, that is iff the sequence is valid. -/
def Obligations.ZeroSyndromesIffValid : Prop :=
  ∀ d : Midstate, (∀ j < 3, syndromeAt d j = 0#10) ↔ d = 0#30

/-- 44_correction.md R274: LOC writes the locator of L + 1 coefficients, C[0] = 1, with Z iff L = 0, that is iff every
syndrome is 0. R273, R282: of three syndromes in geometric progression of ratio X the locator is 1 + X·x; the last clause is
the two-error row of 95_test_vectors.md. -/
def Obligations.LocatorCommand : Prop :=
  ∀ (s : State) (rd ra : RegIdx) (syn : List Ext), XmHolds s ra syn →
    (bm syn).1.length = (bm syn).2 + 1 ∧ coeff (bm syn).1 0 = 1#10 ∧ ((bm syn).2 = 0 ↔ AllZero syn) ∧
    (DestFits s rd ((bm syn).2 + 1) → Completes (exec (.loc rd ra) s) (WritesPoly s rd (bm syn).1 ((bm syn).2 = 0))) ∧
    (¬DestFits s rd ((bm syn).2 + 1) →
      Faults (exec (.loc rd ra) s) s 4#8 (BitVec.ofNat 32 (max (descBase (s.getN rd)) Config.xmSize))) ∧
    (∀ v x : Ext, v ≠ 0#10 → bm [v, gf1024Mul v x, gf1024Mul (gf1024Mul v x) x] = ([1#10, x], 1)) ∧
    bm [0x34E#10, 0x1DF#10, 0x082#10] = ([0x001#10, 0x375#10, 0x349#10], 2)

/-- 44_correction.md R273: bm's polynomial generates its syndromes: for L <= n < T the sum of C[i]·S[n-i] is 0. -/
def Obligations.LocatorGeneratesTheSyndromes : Prop :=
  ∀ (syn : List Ext) (n : Nat), (bm syn).2 ≤ n → n < syn.length →
    coeff syn n ^^^ xorSum ((List.range (bm syn).2).map fun i =>
      gf1024Mul (coeff (bm syn).1 (i + 1)) (coeff syn (n - (i + 1)))) = 0#10

/-- 44_correction.md R275, R276: ROOTS writes, in ascending order, exactly the positions i < n with C(β^(-i)) = 0; VARIANT,
then ARG_RANGE, before the source is read. -/
def Obligations.RootsCommand : Prop :=
  ∀ (s : State) (rd ra rb : RegIdx),
    (s.var = .noChecksum → Faults (exec (.roots rd ra rb) s) s 7#8 0#32) ∧
    (s.var ≠ .noChecksum → 1023 < (s.getN rb).toNat → Faults (exec (.roots rd ra rb) s) s 8#8 (s.getN rb)) ∧
    (∀ c ps, s.var ≠ .noChecksum → (s.getN rb).toNat ≤ 1023 → XmHolds s ra c → ps.Pairwise (fun i j => i < j) →
      (∀ i, i ∈ ps ↔ i < (s.getN rb).toNat ∧ peval c (betaPow ((1023 - i) % 1023)) = 0#10) → DestFits s rd ps.length →
      Completes (exec (.roots rd ra rb) s) (WritesPoly s rd (ps.map (BitVec.ofNat 10)) (ps = [])))

/-- 44_correction.md R277, R278: FORNEY writes a magnitude for each position, when no position is 1023 or more and no
denominator is 0; the first offending position of each kind faults, every ARG_RANGE before any DIV_ZERO. R277, written out
for X = β^p: the denominator is X^24·C'(X⁻¹), C' the derivative of C, and the magnitude is X·Ω(X⁻¹) over it, Ω the first T
coefficients of C·S. -/
def Obligations.ForneyCommand : Prop :=
  ∀ (s : State) (rd ra rb rc : RegIdx),
    (s.var = .noChecksum → Faults (exec (.forney rd ra rb rc) s) s 7#8 0#32) ∧
    (∀ syn c ps, s.var ≠ .noChecksum → XmHolds s ra syn → XmHolds s rb c → XmHolds s rc ps →
      ((∀ p ∈ ps, p.toNat < 1023 ∧ forneyDen c p.toNat ≠ 0#10) → DestFits s rd ps.length →
        Completes (exec (.forney rd ra rb rc) s)
          (WritesPoly s rd (ps.map fun p => forneyValue syn c p.toNat)
            (∀ p ∈ ps, forneyValue syn c p.toNat = 0#10))) ∧
      (∀ before p after, ps = before ++ p :: after → (∀ q ∈ before, q.toNat < 1023) → 1023 ≤ p.toNat →
        Faults (exec (.forney rd ra rb rc) s) s 8#8 (BitVec.ofNat 32 p.toNat)) ∧
      (∀ before p after, ps = before ++ p :: after → (∀ q ∈ ps, q.toNat < 1023) →
        (∀ q ∈ before, forneyDen c q.toNat ≠ 0#10) → forneyDen c p.toNat = 0#10 →
        Faults (exec (.forney rd ra rb rc) s) s 5#8 (BitVec.ofNat 32 p.toNat))) ∧
    (∀ (syn c d : List Ext) (p : Nat), p < 1023 → d.length = c.length - 1 →
      (∀ k (h : k < d.length), d[k] = if (k + 1) % 2 = 1 then coeff c (k + 1) else 0#10) →
      forneyDen c p = gf1024Mul (gf1024Pow (betaPow p) 24) (peval d (betaPow ((1023 - p) % 1023))) ∧
      (forneyDen c p ≠ 0#10 → gf1024Mul (forneyValue syn c p) (forneyDen c p) =
        gf1024Mul (betaPow p) (peval ((pmul c syn).take syn.length) (betaPow ((1023 - p) % 1023)))))

/-- 44_correction.md R279, R280, R281: CORR's outcomes. NoChecksum: OK and no fix; a length outside 6..1023:
DEGENERATE_INPUT; else what correctResidue finds, with at most one SM word changed: without a fix OK where the adjusted
residue is 0 and UNCORRECTABLE where it is not; and an invalid region faults. -/
def Obligations.CorrectCommand : Prop :=
  ∀ (s : State) (rd ra : RegIdx),
    (¬Fits Config.smSize (descBase (s.getN ra)) (descLen (s.getN ra)) →
      Faults (exec (.corr rd ra) s) s 3#8 (BitVec.ofNat 32 (max (descBase (s.getN ra)) Config.smSize))) ∧
    (∀ xs, SmHolds s ra xs → s.var = .noChecksum →
      Completes (exec (.corr rd ra) s) fun t => Reports s rd .ok 0#32 t ∧ KeepsSm s t) ∧
    (∀ xs, SmHolds s ra xs → s.var ≠ .noChecksum → (xs.length < 6 ∨ 1023 < xs.length) →
      Completes (exec (.corr rd ra) s) fun t => Reports s rd .degenerateInput 0#32 t ∧ KeepsSm s t) ∧
    (∀ xs tgt, SmHolds s ra xs → target s.var = some tgt → 6 ≤ xs.length → xs.length ≤ 1023 →
      (∀ r, correctResidue (xs.foldl lfsrStep 1#30 ^^^ tgt) xs.length = (r, none) →
        r = (if xs.foldl lfsrStep 1#30 = tgt then .ok else .uncorrectable) ∧
        Completes (exec (.corr rd ra) s) fun t => Reports s rd r 0#32 t ∧ KeepsSm s t) ∧
      (∀ r p e, correctResidue (xs.foldl lfsrStep 1#30 ^^^ tgt) xs.length = (r, some (p, e)) →
        r = .ok ∧ p < xs.length ∧ e ≠ 0#5 ∧
        Completes (exec (.corr rd ra) s) fun t =>
          Reports s rd .ok (BitVec.ofNat 32 (2 ^ 16 + e.toNat * 2 ^ 10 + p)) t ∧
          Stored s.sm t.sm (descBase (s.getN ra) + xs.length - 1 - p) [xs.getD (xs.length - 1 - p) 0#5 ^^^ e]))

/-- 44_correction.md R283, R279: where CORR reports OK under a checksum, the stream it leaves in SM is valid. -/
def Obligations.CorrectedStreamIsValid : Prop :=
  ∀ (s t : State) (rd ra : RegIdx) (xs : List Sym), SmHolds s ra xs → s.var ≠ .noChecksum →
    exec (.corr rd ra) s = .next t → t.rc = .ok →
    ∃ ys : List Sym, ys.length = xs.length ∧
      (∀ j (h : j < ys.length), t.sm.read? (descBase (s.getN ra) + j) = some ys[j]) ∧
      target s.var = some (ys.foldl lfsrStep (initMidstate s.var))

/-- 44_correction.md R282: every single-symbol error in a valid sequence of length 6..1023 is found, with its position
and its magnitude. -/
def Obligations.SingleErrorIsCorrected : Prop :=
  ∀ (var : Variant) (tgt : Midstate) (xs : List Sym) (p : Nat) (e : Sym), target var = some tgt →
    6 ≤ xs.length → xs.length ≤ 1023 → xs.foldl lfsrStep (initMidstate var) = tgt → p < xs.length → e ≠ 0#5 →
    correctResidue ((xs.set (xs.length - 1 - p) (xs.getD (xs.length - 1 - p) 0#5 ^^^ e)).foldl lfsrStep
      (initMidstate var) ^^^ tgt) xs.length = (.ok, some (p, e))

/-- 20_memory.md R82, R83, 60_exceptions.md R347: the range faults of a later source and of a destination, in the order the
command rules check them, each with max(base, size). -/
def Obligations.LaterRegionRangeFaults : Prop :=
  ∀ (s : State) (rd ra rb rc : RegIdx) (d : BitVec 16),
    (Fits Config.xmSize (descBase (s.getN ra)) (descLen (s.getN ra)) →
      ¬Fits Config.xmSize (descBase (s.getN rb)) (descLen (s.getN rb)) →
      Faults (exec (.pmul rd ra rb) s) s 4#8 (BitVec.ofNat 32 (max (descBase (s.getN rb)) Config.xmSize)) ∧
      Faults (exec (.pmulx rd ra rb d) s) s 4#8 (BitVec.ofNat 32 (max (descBase (s.getN rb)) Config.xmSize)) ∧
      Faults (exec (.prem rd ra rb) s) s 4#8 (BitVec.ofNat 32 (max (descBase (s.getN rb)) Config.xmSize)) ∧
      (s.var ≠ .noChecksum →
        Faults (exec (.forney rd ra rb rc) s) s 4#8 (BitVec.ofNat 32 (max (descBase (s.getN rb)) Config.xmSize)))) ∧
    (¬Fits Config.xmSize (descBase (s.getN ra)) (descLen (s.getN ra)) →
      Faults (exec (.loc rd ra) s) s 4#8 (BitVec.ofNat 32 (max (descBase (s.getN ra)) Config.xmSize)) ∧
      (s.var ≠ .noChecksum → (s.getN rb).toNat ≤ 1023 →
        Faults (exec (.roots rd ra rb) s) s 4#8 (BitVec.ofNat 32 (max (descBase (s.getN ra)) Config.xmSize))) ∧
      (s.var ≠ .noChecksum →
        Faults (exec (.forney rd ra rb rc) s) s 4#8 (BitVec.ofNat 32 (max (descBase (s.getN ra)) Config.xmSize)))) ∧
    (s.var ≠ .noChecksum → Fits Config.xmSize (descBase (s.getN ra)) (descLen (s.getN ra)) →
      Fits Config.xmSize (descBase (s.getN rb)) (descLen (s.getN rb)) →
      ¬Fits Config.xmSize (descBase (s.getN rc)) (descLen (s.getN rc)) →
      Faults (exec (.forney rd ra rb rc) s) s 4#8 (BitVec.ofNat 32 (max (descBase (s.getN rc)) Config.xmSize))) ∧
    (∀ a, SmHolds s ra a → ¬DestFits s rd a.length →
      Faults (exec (.pemb rd ra) s) s 4#8 (BitVec.ofNat 32 (max (descBase (s.getN rd)) Config.xmSize))) ∧
    (∀ a, XmHolds s ra a → ¬DestFits s rd (a.length - 1) →
      Faults (exec (.pder rd ra) s) s 4#8 (BitVec.ofNat 32 (max (descBase (s.getN rd)) Config.xmSize))) ∧
    (∀ a b, XmHolds s ra a → XmHolds s rb b → ¬DestFits s rd (min d.toNat (pmul a b).length) →
      Faults (exec (.pmulx rd ra rb d) s) s 4#8 (BitVec.ofNat 32 (max (descBase (s.getN rd)) Config.xmSize))) ∧
    (∀ a b db, XmHolds s ra a → XmHolds s rb b → db < b.length → coeff b db ≠ 0#10 →
      (∀ k, db < k → coeff b k = 0#10) → ¬DestFits s rd db →
      Faults (exec (.prem rd ra rb) s) s 4#8 (BitVec.ofNat 32 (max (descBase (s.getN rd)) Config.xmSize))) ∧
    (∀ (c : List Ext) (ps : List Nat), s.var ≠ .noChecksum → (s.getN rb).toNat ≤ 1023 → XmHolds s ra c →
      ps.Pairwise (fun i j => i < j) →
      (∀ i, i ∈ ps ↔ i < (s.getN rb).toNat ∧ peval c (betaPow ((1023 - i) % 1023)) = 0#10) → ¬DestFits s rd ps.length →
      Faults (exec (.roots rd ra rb) s) s 4#8 (BitVec.ofNat 32 (max (descBase (s.getN rd)) Config.xmSize))) ∧
    (∀ syn c ps, s.var ≠ .noChecksum → XmHolds s ra syn → XmHolds s rb c → XmHolds s rc ps →
      (∀ p ∈ ps, p.toNat < 1023 ∧ forneyDen c p.toNat ≠ 0#10) → ¬DestFits s rd ps.length →
      Faults (exec (.forney rd ra rb rc) s) s 4#8 (BitVec.ofNat 32 (max (descBase (s.getN rd)) Config.xmSize)))

/-! ## The whole machine -/

/-- 10_state.md R38, R42, 70_reset_and_hazards.md R387: V and RC are written by LCHK, LVER, CORR and SELFT alone, each
with V = (RC = OK) unless it faults, and the listed commands do not write Z. -/
def Obligations.OnlyEngineCommandsWriteResult : Prop :=
  ∀ (i : Instr) (s t : State), exec i s = .next t →
    ((∀ rd, i ≠ .lchk rd) → i ≠ .lver → (∀ rd ra, i ≠ .corr rd ra) → i ≠ .selft → KeepsResult s t) ∧
    (i ∈ [.halt, .nop, .lrst, .lver, .selft] ∨ (∃ c d, i = .bc c d) ∨ (∃ r d, i = .dbnz r d) ∨
      (∃ r a m, i = .sts r a m) ∨ (∃ r a m, i = .stx r a m) ∨ (∃ v, i = .setv v) ∨ (∃ r, i = .lfb r) ∨
      (∃ r, i = .lfm r) ∨ (∃ r, i = .lchk r) → t.z = s.z) ∧
    (t.v = s.v ∧ t.rc = s.rc ∨ (t.v = true ↔ t.rc = .ok))

/-- 20_memory.md R91, R77: while the sequencer runs, no step but a hard reset changes a word of CM. -/
def Obligations.RunningUnitKeepsCommandMemory : Prop :=
  ∀ s t : State, s.busy = true → (∀ rest, s.host ≠ .hardReset :: rest) → step s = .next t → KeepsCm s t

/-- 60_exceptions.md R343, R345; 10_state.md R45, R46: a command of a running unit that leaves it stopped is HALT or
took a fault, and then no other effect of it is visible; one that leaves it running changes no exception register. -/
def Obligations.FaultsArePrecise : Prop :=
  ∀ (i : Instr) (s t : State), s.busy = true → exec i s = .next t →
    (t.busy = false → i = .halt ∨ ∃ code info, 1 ≤ code.toNat ∧ code.toNat ≤ 8 ∧
      t = { s with ecode := code, epc := s.pc, einfo := info, err := true, busy := false }) ∧
    (t.busy = true → KeepsControl s t)

/-- 60_exceptions.md R352, 30_encoding.md R119: in a state whose SM and XM words are all written, every command, with any
operands, ends in a next state. -/
def Obligations.EveryCommandRunsOnWrittenMemory : Prop :=
  ∀ (i : Instr) (s : State), (∀ a < Config.smSize, ∃ x, s.sm.read? a = some x) →
    (∀ a < Config.xmSize, ∃ x, s.xm.read? a = some x) → ∃ t, exec i s = .next t

/-! ## The host window -/

/-- 10_state.md R49: a START write of an idle unit sets PC, clears DONE, ERR and ECODE and starts the run; a START write of
a running one is dropped and sets WERR; a read of START gives 0 (exactly so when idle). That EINFO is kept follows
60_exceptions.md R349 against a row of R340 (log 20). -/
def Obligations.StartWriteStartsTheRun : Prop :=
  (∀ (s : State) (x : Word) rest, HostWrites s 0x000C#16 x rest → s.busy = false →
    step s = .next { s with
      host := rest
      pc := x.extractLsb' 0 16
      done := false
      err := false
      ecode := 0#8
      busy := true }) ∧
  (∀ (s : State) (x : Word) rest, HostWrites s 0x000C#16 x rest → s.busy = true →
    step s = .next { s with host := rest, werr := true }) ∧
  (∀ (s : State) rest, s.host = .read 0x000C#16 4 :: rest → s.busy = false →
    step s = .next { s with host := rest, hostData := 0#32 })

/-- 20_memory.md R77, 70_reset_and_hazards.md R388: while BUSY = 1 an aligned write to any offset but CTRL is dropped and
sets WERR; reads of ID and CTRL are exact, and of any other offset change nothing but the value read and the count of free
values (STATUS: StatusRegister). That this holds for an unwritten memory word too is the model's choice between R77 and
10_state.md R57 (log 21); that a reserved offset's write sets WERR too, and that its read gives 0, is the model's
choice between R77 and R75 (log 8). -/
def Obligations.BusyUnitDropsHostWrites : Prop :=
  ∀ (s : State) (off : BitVec 16) rest, s.busy = true → off.toNat % 4 = 0 →
    (∀ x, HostWrites s off x rest → off ≠ 0x0004#16 → step s = .next { s with host := rest, werr := true }) ∧
    (s.host = .read 0x0000#16 4 :: rest → step s = .next { s with host := rest, hostData := 0x42470001#32 }) ∧
    (s.host = .read 0x0004#16 4 :: rest →
      step s = .next { s with host := rest, hostData := if s.ie = true then 1#32 else 0#32 }) ∧
    (s.host = .read off 4 :: rest →
      ∃ x n, step s = .next { s with host := rest, hostData := x, draws := n }) ∧
    (s.host = .read off 4 :: rest → ¬ListedOffset off.toNat →
      step s = .next { s with host := rest, hostData := 0#32 })

/-- 10_state.md R42: the numbers of RC. 10_state.md R48: the fields of STATUS as read, its write-one-to-clear bits while idle,
and its dropped write while busy. -/
def Obligations.StatusRegister : Prop :=
  (resultNumber .ok = 0#4 ∧ resultNumber .invalidChecksum = 1#4 ∧ resultNumber .uncorrectable = 2#4 ∧
    resultNumber .degenerateInput = 3#4 ∧ resultNumber .specInconsistent = 4#4) ∧
  (∀ (s : State) rest, s.host = .read 0x0008#16 4 :: rest → Completes (step s) fun t =>
    t = { s with host := rest, hostData := t.hostData } ∧
    t.hostData.getLsbD 0 = s.busy ∧ t.hostData.getLsbD 1 = s.done ∧ t.hostData.getLsbD 2 = s.err ∧
    t.hostData.getLsbD 3 = s.werr ∧ t.hostData.getLsbD 4 = s.z ∧ t.hostData.getLsbD 5 = s.v ∧
    t.hostData.extractLsb' 6 2 = 0#2 ∧ t.hostData.extractLsb' 8 4 = resultNumber s.rc ∧
    t.hostData.extractLsb' 12 20 = 0#20) ∧
  (∀ (s : State) (x : Word) rest, HostWrites s 0x0008#16 x rest → s.busy = false →
    step s = .next { s with
      host := rest
      done := s.done && !x.getLsbD 1
      err := s.err && !x.getLsbD 2
      werr := s.werr && !x.getLsbD 3 }) ∧
  (∀ (s : State) (x : Word) rest, HostWrites s 0x0008#16 x rest → s.busy = true →
    step s = .next { s with host := rest, werr := true })

/-- 70_reset_and_hazards.md R382: a CTRL write with SRST, at any time and whatever its other bits, resets the control state
and keeps every register file and memory. -/
def Obligations.SoftReset : Prop :=
  ∀ (s : State) (x : Word) rest, HostWrites s 0x0004#16 x rest → x.getLsbD 2 = true → Completes (step s) fun t =>
    t.pc = 0x0000#16 ∧ t.z = false ∧ t.v = false ∧ t.var = .bech32 ∧ t.mid = 0x00000001#30 ∧ t.cnt = 0#32 ∧
    t.rc = .ok ∧ t.ecode = 0#8 ∧ t.epc = 0#16 ∧ t.einfo = 0#32 ∧ t.ie = false ∧ t.busy = false ∧ t.done = false ∧
    t.err = false ∧ t.werr = false ∧ t.stopReq = false ∧ KeepsRegs s t ∧ KeepsMem s t ∧ t.host = rest

/-- 20_memory.md R73-R76, R78: what every offset of the window names, a reserved one included, and what a host read of an
idle unit gives there: the value that stands there, zero-extended, 0 at a reserved offset, with nothing else changed; a
memory word that nothing has written is refused (log 2). STATUS has a statement of its own. -/
def Obligations.WindowMap : Prop :=
  windowTarget 0x0000#16 = .id ∧ windowTarget 0x0004#16 = .ctrl ∧ windowTarget 0x0008#16 = .status ∧
  windowTarget 0x000C#16 = .start ∧ windowTarget 0x0010#16 = .pc ∧ windowTarget 0x0014#16 = .ecode ∧
  windowTarget 0x0018#16 = .epc ∧ windowTarget 0x001C#16 = .einfo ∧ windowTarget 0x0020#16 = .var ∧
  windowTarget 0x0024#16 = .mid ∧ windowTarget 0x0028#16 = .cnt ∧ windowTarget 0x002C#16 = .flags ∧
  (∀ i : RegIdx, windowTarget (BitVec.ofNat 16 (0x0040 + 4 * i.toNat)) = .b i ∧
    windowTarget (BitVec.ofNat 16 (0x0060 + 4 * i.toNat)) = .e i ∧
    windowTarget (BitVec.ofNat 16 (0x0080 + 4 * i.toNat)) = .n i) ∧
  (∀ i < 256, windowTarget (BitVec.ofNat 16 (0x1000 + 4 * i)) = .cm i) ∧
  (∀ i < 64, windowTarget (BitVec.ofNat 16 (0x2000 + 4 * i)) = .xm i) ∧
  (∀ i < 1024, windowTarget (BitVec.ofNat 16 (0x4000 + 4 * i)) = .sm i) ∧
  (∀ off : BitVec 16, off.toNat % 4 = 0 → (windowTarget off = .reserved ↔ ¬ListedOffset off.toNat)) ∧
  (∀ (s : State) (off : BitVec 16) rest, s.host = .read off 4 :: rest → s.busy = false → off.toNat % 4 = 0 →
    ReadsAs s off rest)

/-- 20_memory.md R76, R75, 10_state.md R40: a host write of an idle unit changes its target only (CTRL, STATUS and START
have statements of their own), nothing at a reserved offset nor, by log 9, at a read-only one; it stores the word's low
bits, as many as the target is wide, but for VAR, which a write of 3 leaves unchanged; and the next read of the same offset
gives what is stored, zero-extended. -/
def Obligations.HostWriteThenRead : Prop :=
  (windowWidth .mid = 30 ∧ windowWidth .cnt = 32 ∧ windowWidth .flags = 2 ∧ (∀ i, windowWidth (.b i) = 5) ∧
    (∀ i, windowWidth (.e i) = 10) ∧ (∀ i, windowWidth (.n i) = 32) ∧ (∀ i, windowWidth (.cm i) = 32) ∧
    (∀ i, windowWidth (.xm i) = 10) ∧ (∀ i, windowWidth (.sm i) = 5)) ∧
  ∀ (s : State) (off : BitVec 16) (x : Word) rest, HostWrites s off x rest → s.busy = false → off.toNat % 4 = 0 →
    (off ≠ 0x0004#16 → off ≠ 0x0008#16 → off ≠ 0x000C#16 → Completes (step s) fun t =>
      KeepsAllBut (windowTarget off) s t ∧ t.host = rest) ∧
    (∀ later, rest = .read off 4 :: later →
      ((windowTarget off = .mid ∨ windowTarget off = .cnt ∨ windowTarget off = .flags ∨
          (∃ i, windowTarget off = .b i) ∨ (∃ i, windowTarget off = .e i) ∨ (∃ i, windowTarget off = .n i) ∨
          (∃ i, windowTarget off = .cm i) ∨ (∃ i, windowTarget off = .xm i) ∨ (∃ i, windowTarget off = .sm i)) →
        Completes (step s) fun t => Completes (step t) fun u =>
          u.hostData = (x.setWidth (windowWidth (windowTarget off))).setWidth 32) ∧
      (off = 0x0020#16 → Completes (step s) fun t =>
        variantNumber t.var = (if x.extractLsb' 0 2 = 3#2 then variantNumber s.var else x.extractLsb' 0 2) ∧
        Completes (step t) fun u => u.hostData = (variantNumber t.var).setWidth 32))
end

