-- ==== Sys2Proof/Laws/Encoding.lean ====
section
/-! SUPPORT. Each format of the encoder holds each of its fields where the decoder reads it (30_encoding.md R111,
R112). -/

namespace Sys2Proof

@[simp] theorem opField_encF0 (op : BitVec 6) : opField (encF0 op) = op := by
  ext i hi
  simp only [opField, encF0, BitVec.getElem_extractLsb', BitVec.getLsbD_append]
  interval_cases i <;> simp

@[simp] theorem opField_encFR (op : BitVec 6) (rd ra rb : RegIdx) : opField (encFR op rd ra rb) = op := by
  ext i hi
  simp only [opField, encFR, BitVec.getElem_extractLsb', BitVec.getLsbD_append]
  interval_cases i <;> simp

@[simp] theorem rdField_encFR (op : BitVec 6) (rd ra rb : RegIdx) : rdField (encFR op rd ra rb) = rd := by
  ext i hi
  simp only [rdField, encFR, BitVec.getElem_extractLsb', BitVec.getLsbD_append]
  interval_cases i <;> simp

@[simp] theorem raField_encFR (op : BitVec 6) (rd ra rb : RegIdx) : raField (encFR op rd ra rb) = ra := by
  ext i hi
  simp only [raField, encFR, BitVec.getElem_extractLsb', BitVec.getLsbD_append]
  interval_cases i <;> simp

@[simp] theorem rbField_encFR (op : BitVec 6) (rd ra rb : RegIdx) : rbField (encFR op rd ra rb) = rb := by
  ext i hi
  simp only [rbField, encFR, BitVec.getElem_extractLsb', BitVec.getLsbD_append]
  interval_cases i <;> simp

@[simp] theorem opField_encFR4 (op : BitVec 6) (rd ra rb rc : RegIdx) : opField (encFR4 op rd ra rb rc) = op := by
  ext i hi
  simp only [opField, encFR4, BitVec.getElem_extractLsb', BitVec.getLsbD_append]
  interval_cases i <;> simp

@[simp] theorem rdField_encFR4 (op : BitVec 6) (rd ra rb rc : RegIdx) : rdField (encFR4 op rd ra rb rc) = rd := by
  ext i hi
  simp only [rdField, encFR4, BitVec.getElem_extractLsb', BitVec.getLsbD_append]
  interval_cases i <;> simp

@[simp] theorem raField_encFR4 (op : BitVec 6) (rd ra rb rc : RegIdx) : raField (encFR4 op rd ra rb rc) = ra := by
  ext i hi
  simp only [raField, encFR4, BitVec.getElem_extractLsb', BitVec.getLsbD_append]
  interval_cases i <;> simp

@[simp] theorem rbField_encFR4 (op : BitVec 6) (rd ra rb rc : RegIdx) : rbField (encFR4 op rd ra rb rc) = rb := by
  ext i hi
  simp only [rbField, encFR4, BitVec.getElem_extractLsb', BitVec.getLsbD_append]
  interval_cases i <;> simp

@[simp] theorem rcField_encFR4 (op : BitVec 6) (rd ra rb rc : RegIdx) : rcField (encFR4 op rd ra rb rc) = rc := by
  ext i hi
  simp only [rcField, encFR4, BitVec.getElem_extractLsb', BitVec.getLsbD_append]
  interval_cases i <;> simp

@[simp] theorem opField_encFI (op : BitVec 6) (rd : RegIdx) (imm : BitVec 16) : opField (encFI op rd imm) = op := by
  ext i hi
  simp only [opField, encFI, BitVec.getElem_extractLsb', BitVec.getLsbD_append]
  interval_cases i <;> simp

@[simp] theorem rdField_encFI (op : BitVec 6) (rd : RegIdx) (imm : BitVec 16) : rdField (encFI op rd imm) = rd := by
  ext i hi
  simp only [rdField, encFI, BitVec.getElem_extractLsb', BitVec.getLsbD_append]
  interval_cases i <;> simp

@[simp] theorem imm16Field_encFI (op : BitVec 6) (rd : RegIdx) (imm : BitVec 16) : imm16Field (encFI op rd imm) = imm := by
  ext i hi
  simp only [imm16Field, encFI, BitVec.getElem_extractLsb', BitVec.getLsbD_append]
  interval_cases i <;> simp

@[simp] theorem opField_encFRI (op : BitVec 6) (rd ra : RegIdx) (imm : BitVec 16) : opField (encFRI op rd ra imm) = op := by
  ext i hi
  simp only [opField, encFRI, BitVec.getElem_extractLsb', BitVec.getLsbD_append]
  interval_cases i <;> simp

@[simp] theorem rdField_encFRI (op : BitVec 6) (rd ra : RegIdx) (imm : BitVec 16) : rdField (encFRI op rd ra imm) = rd := by
  ext i hi
  simp only [rdField, encFRI, BitVec.getElem_extractLsb', BitVec.getLsbD_append]
  interval_cases i <;> simp

@[simp] theorem raField_encFRI (op : BitVec 6) (rd ra : RegIdx) (imm : BitVec 16) : raField (encFRI op rd ra imm) = ra := by
  ext i hi
  simp only [raField, encFRI, BitVec.getElem_extractLsb', BitVec.getLsbD_append]
  interval_cases i <;> simp

@[simp] theorem imm16Field_encFRI (op : BitVec 6) (rd ra : RegIdx) (imm : BitVec 16) : imm16Field (encFRI op rd ra imm) = imm := by
  ext i hi
  simp only [imm16Field, encFRI, BitVec.getElem_extractLsb', BitVec.getLsbD_append]
  interval_cases i <;> simp

@[simp] theorem opField_encFRRI (op : BitVec 6) (rd ra rb : RegIdx) (imm : BitVec 16) : opField (encFRRI op rd ra rb imm) = op := by
  ext i hi
  simp only [opField, encFRRI, BitVec.getElem_extractLsb', BitVec.getLsbD_append]
  interval_cases i <;> simp

@[simp] theorem rdField_encFRRI (op : BitVec 6) (rd ra rb : RegIdx) (imm : BitVec 16) : rdField (encFRRI op rd ra rb imm) = rd := by
  ext i hi
  simp only [rdField, encFRRI, BitVec.getElem_extractLsb', BitVec.getLsbD_append]
  interval_cases i <;> simp

@[simp] theorem raField_encFRRI (op : BitVec 6) (rd ra rb : RegIdx) (imm : BitVec 16) : raField (encFRRI op rd ra rb imm) = ra := by
  ext i hi
  simp only [raField, encFRRI, BitVec.getElem_extractLsb', BitVec.getLsbD_append]
  interval_cases i <;> simp

@[simp] theorem rbField_encFRRI (op : BitVec 6) (rd ra rb : RegIdx) (imm : BitVec 16) : rbField (encFRRI op rd ra rb imm) = rb := by
  ext i hi
  simp only [rbField, encFRRI, BitVec.getElem_extractLsb', BitVec.getLsbD_append]
  interval_cases i <;> simp

@[simp] theorem imm16Field_encFRRI (op : BitVec 6) (rd ra rb : RegIdx) (imm : BitVec 16) : imm16Field (encFRRI op rd ra rb imm) = imm := by
  ext i hi
  simp only [imm16Field, encFRRI, BitVec.getElem_extractLsb', BitVec.getLsbD_append]
  interval_cases i <;> simp

@[simp] theorem opField_encFB (op : BitVec 6) (cond : BitVec 4) (imm : BitVec 16) : opField (encFB op cond imm) = op := by
  ext i hi
  simp only [opField, encFB, BitVec.getElem_extractLsb', BitVec.getLsbD_append]
  interval_cases i <;> simp

@[simp] theorem condField_encFB (op : BitVec 6) (cond : BitVec 4) (imm : BitVec 16) : condField (encFB op cond imm) = cond := by
  ext i hi
  simp only [condField, encFB, BitVec.getElem_extractLsb', BitVec.getLsbD_append]
  interval_cases i <;> simp

@[simp] theorem imm16Field_encFB (op : BitVec 6) (cond : BitVec 4) (imm : BitVec 16) : imm16Field (encFB op cond imm) = imm := by
  ext i hi
  simp only [imm16Field, encFB, BitVec.getElem_extractLsb', BitVec.getLsbD_append]
  interval_cases i <;> simp

end Sys2Proof
end

