-- ==== Sys2Proof/Laws/Memory.lean ====
section
/-! SUPPORT. The laws of the three memories: a read after a write, and that every memory operation keeps the canonical
form (log 4) and the address range (20_memory.md R80). -/

namespace Sys2Proof.Machine

variable {w : Nat}

@[simp] theorem Memory.read?_nil (a : Nat) : Memory.read? ([] : Memory w) a = none := rfl

theorem Memory.read?_write (m : Memory w) (a c : Nat) (x : BitVec w) :
    (m.write a x).read? c = if c = a then some x else m.read? c := by
  induction m with
  | nil =>
    by_cases h : c = a
    · simp [Memory.write, Memory.read?, h]
    · simp [Memory.write, Memory.read?, h, Ne.symm h]
  | cons p rest ih =>
    obtain ⟨k, y⟩ := p
    simp only [Memory.write]
    split
    · by_cases h : c = a
      · simp [Memory.read?, h]
      · simp [Memory.read?, h, Ne.symm h]
    · split
      · rename_i h2
        subst h2
        by_cases h : c = a
        · simp [Memory.read?, h]
        · simp [Memory.read?, h, Ne.symm h]
      · by_cases hk : k = c
        · subst hk
          have : k ≠ a := by omega
          simp [Memory.read?, this]
        · simp [Memory.read?, hk, ih]

@[simp] theorem Memory.read?_write_same (m : Memory w) (a : Nat) (x : BitVec w) : (m.write a x).read? a = some x := by
  simp [Memory.read?_write]

theorem Memory.read?_write_other (m : Memory w) {a c : Nat} (x : BitVec w) (h : c ≠ a) :
    (m.write a x).read? c = m.read? c := by
  simp [Memory.read?_write, h]

theorem Memory.mem_write {m : Memory w} {a : Nat} {x : BitVec w} {p : Nat × BitVec w} (h : p ∈ m.write a x) :
    p = (a, x) ∨ p ∈ m := by
  induction m with
  | nil => simp_all [Memory.write]
  | cons q rest ih =>
    obtain ⟨k, y⟩ := q
    simp only [Memory.write] at h
    split at h
    · simpa using h
    · split at h
      · rcases List.mem_cons.mp h with h | h
        · exact .inl h
        · exact .inr (List.mem_cons_of_mem _ h)
      · rcases List.mem_cons.mp h with h | h
        · exact .inr (h ▸ List.mem_cons_self)
        · exact (ih h).imp_right (List.mem_cons_of_mem _)

theorem Memory.wf_write {m : Memory w} (a : Nat) (x : BitVec w) (h : m.wf) : (m.write a x).wf := by
  induction m with
  | nil => simp [Memory.write, Memory.wf]
  | cons q rest ih =>
    obtain ⟨k, y⟩ := q
    obtain ⟨hk, hr⟩ := List.pairwise_cons.mp h
    simp only [Memory.write]
    split
    · rename_i hlt
      refine List.pairwise_cons.mpr ⟨fun p hp => ?_, h⟩
      rcases List.mem_cons.mp hp with rfl | hp
      · exact hlt
      · exact Nat.lt_trans hlt (hk p hp)
    · split
      · rename_i hEq
        subst hEq
        exact List.pairwise_cons.mpr ⟨hk, hr⟩
      · refine List.pairwise_cons.mpr ⟨fun p hp => ?_, ih hr⟩
        rcases Memory.mem_write hp with rfl | hp
        · show k < a
          omega
        · exact hk p hp

theorem Memory.below_write {m : Memory w} {size a : Nat} (x : BitVec w) (h : m.below size) (ha : a < size) :
    (m.write a x).below size := fun p hp => by
  rcases Memory.mem_write hp with rfl | hp
  · exact ha
  · exact h p hp

theorem Memory.wf_writeList {m : Memory w} (base : Nat) (xs : List (BitVec w)) (h : m.wf) : (m.writeList base xs).wf := by
  induction xs generalizing m base with
  | nil => exact h
  | cons x xs ih => exact ih _ (Memory.wf_write _ _ h)

theorem Memory.below_writeList {m : Memory w} {size base : Nat} (xs : List (BitVec w)) (h : m.below size)
    (hb : xs.length = 0 ∨ base + xs.length ≤ size) : (m.writeList base xs).below size := by
  induction xs generalizing m base with
  | nil => exact h
  | cons x xs ih =>
    simp only [List.length_cons] at hb
    exact ih (Memory.below_write _ h (by omega)) (by omega)

/-- A region write leaves every word outside the region alone (20_memory.md R83). -/
theorem Memory.read?_writeList_outside (m : Memory w) (base c : Nat) (xs : List (BitVec w))
    (h : c < base ∨ base + xs.length ≤ c) : (m.writeList base xs).read? c = m.read? c := by
  induction xs generalizing m base with
  | nil => rfl
  | cons x xs ih =>
    simp only [List.length_cons] at h
    show ((m.write base x).writeList (base + 1) xs).read? c = _
    rw [ih _ _ (by omega), Memory.read?_write_other _ _ (by omega)]

/-- A region write leaves element j at base + j (20_memory.md R82, R83). -/
theorem Memory.read?_writeList_inside (m : Memory w) (base j : Nat) (xs : List (BitVec w)) (h : j < xs.length) :
    (m.writeList base xs).read? (base + j) = some xs[j] := by
  induction xs generalizing m base j with
  | nil => simp at h
  | cons x xs ih =>
    show ((m.write base x).writeList (base + 1) xs).read? (base + j) = _
    cases j with
    | zero => simp [Memory.read?_writeList_outside]
    | succ j =>
      have := ih (m.write base x) (base + 1) j (by simpa using h)
      simpa [Nat.add_assoc, Nat.add_comm 1 j] using this

end Sys2Proof.Machine
end

