-- ==== Sys2Proof/Laws/State.lean ====
section
/-! SUPPORT. One lemma per field per update of State, each true by rfl, so that no proof unfolds a record update; then
what a register read gives after each update. -/

namespace Sys2Proof.Machine

variable (s : State)

/-! ### setB -/

@[simp] theorem State.setB_b (i : RegIdx) (x : Sym) : (s.setB i x).b = s.b.set i.toNat x i.isLt := rfl
@[simp] theorem State.setB_e (i : RegIdx) (x : Sym) : (s.setB i x).e = s.e := rfl
@[simp] theorem State.setB_n (i : RegIdx) (x : Sym) : (s.setB i x).n = s.n := rfl
@[simp] theorem State.setB_sm (i : RegIdx) (x : Sym) : (s.setB i x).sm = s.sm := rfl
@[simp] theorem State.setB_xm (i : RegIdx) (x : Sym) : (s.setB i x).xm = s.xm := rfl
@[simp] theorem State.setB_cm (i : RegIdx) (x : Sym) : (s.setB i x).cm = s.cm := rfl
@[simp] theorem State.setB_pc (i : RegIdx) (x : Sym) : (s.setB i x).pc = s.pc := rfl
@[simp] theorem State.setB_z (i : RegIdx) (x : Sym) : (s.setB i x).z = s.z := rfl
@[simp] theorem State.setB_v (i : RegIdx) (x : Sym) : (s.setB i x).v = s.v := rfl
@[simp] theorem State.setB_var (i : RegIdx) (x : Sym) : (s.setB i x).var = s.var := rfl
@[simp] theorem State.setB_mid (i : RegIdx) (x : Sym) : (s.setB i x).mid = s.mid := rfl
@[simp] theorem State.setB_rc (i : RegIdx) (x : Sym) : (s.setB i x).rc = s.rc := rfl
@[simp] theorem State.setB_cnt (i : RegIdx) (x : Sym) : (s.setB i x).cnt = s.cnt := rfl
@[simp] theorem State.setB_ecode (i : RegIdx) (x : Sym) : (s.setB i x).ecode = s.ecode := rfl
@[simp] theorem State.setB_epc (i : RegIdx) (x : Sym) : (s.setB i x).epc = s.epc := rfl
@[simp] theorem State.setB_einfo (i : RegIdx) (x : Sym) : (s.setB i x).einfo = s.einfo := rfl
@[simp] theorem State.setB_ie (i : RegIdx) (x : Sym) : (s.setB i x).ie = s.ie := rfl
@[simp] theorem State.setB_busy (i : RegIdx) (x : Sym) : (s.setB i x).busy = s.busy := rfl
@[simp] theorem State.setB_done (i : RegIdx) (x : Sym) : (s.setB i x).done = s.done := rfl
@[simp] theorem State.setB_err (i : RegIdx) (x : Sym) : (s.setB i x).err = s.err := rfl
@[simp] theorem State.setB_werr (i : RegIdx) (x : Sym) : (s.setB i x).werr = s.werr := rfl
@[simp] theorem State.setB_stopReq (i : RegIdx) (x : Sym) : (s.setB i x).stopReq = s.stopReq := rfl
@[simp] theorem State.setB_host (i : RegIdx) (x : Sym) : (s.setB i x).host = s.host := rfl
@[simp] theorem State.setB_hostData (i : RegIdx) (x : Sym) : (s.setB i x).hostData = s.hostData := rfl
@[simp] theorem State.setB_draws (i : RegIdx) (x : Sym) : (s.setB i x).draws = s.draws := rfl

/-! ### setE -/

@[simp] theorem State.setE_b (i : RegIdx) (x : Ext) : (s.setE i x).b = s.b := rfl
@[simp] theorem State.setE_e (i : RegIdx) (x : Ext) : (s.setE i x).e = s.e.set i.toNat x i.isLt := rfl
@[simp] theorem State.setE_n (i : RegIdx) (x : Ext) : (s.setE i x).n = s.n := rfl
@[simp] theorem State.setE_sm (i : RegIdx) (x : Ext) : (s.setE i x).sm = s.sm := rfl
@[simp] theorem State.setE_xm (i : RegIdx) (x : Ext) : (s.setE i x).xm = s.xm := rfl
@[simp] theorem State.setE_cm (i : RegIdx) (x : Ext) : (s.setE i x).cm = s.cm := rfl
@[simp] theorem State.setE_pc (i : RegIdx) (x : Ext) : (s.setE i x).pc = s.pc := rfl
@[simp] theorem State.setE_z (i : RegIdx) (x : Ext) : (s.setE i x).z = s.z := rfl
@[simp] theorem State.setE_v (i : RegIdx) (x : Ext) : (s.setE i x).v = s.v := rfl
@[simp] theorem State.setE_var (i : RegIdx) (x : Ext) : (s.setE i x).var = s.var := rfl
@[simp] theorem State.setE_mid (i : RegIdx) (x : Ext) : (s.setE i x).mid = s.mid := rfl
@[simp] theorem State.setE_rc (i : RegIdx) (x : Ext) : (s.setE i x).rc = s.rc := rfl
@[simp] theorem State.setE_cnt (i : RegIdx) (x : Ext) : (s.setE i x).cnt = s.cnt := rfl
@[simp] theorem State.setE_ecode (i : RegIdx) (x : Ext) : (s.setE i x).ecode = s.ecode := rfl
@[simp] theorem State.setE_epc (i : RegIdx) (x : Ext) : (s.setE i x).epc = s.epc := rfl
@[simp] theorem State.setE_einfo (i : RegIdx) (x : Ext) : (s.setE i x).einfo = s.einfo := rfl
@[simp] theorem State.setE_ie (i : RegIdx) (x : Ext) : (s.setE i x).ie = s.ie := rfl
@[simp] theorem State.setE_busy (i : RegIdx) (x : Ext) : (s.setE i x).busy = s.busy := rfl
@[simp] theorem State.setE_done (i : RegIdx) (x : Ext) : (s.setE i x).done = s.done := rfl
@[simp] theorem State.setE_err (i : RegIdx) (x : Ext) : (s.setE i x).err = s.err := rfl
@[simp] theorem State.setE_werr (i : RegIdx) (x : Ext) : (s.setE i x).werr = s.werr := rfl
@[simp] theorem State.setE_stopReq (i : RegIdx) (x : Ext) : (s.setE i x).stopReq = s.stopReq := rfl
@[simp] theorem State.setE_host (i : RegIdx) (x : Ext) : (s.setE i x).host = s.host := rfl
@[simp] theorem State.setE_hostData (i : RegIdx) (x : Ext) : (s.setE i x).hostData = s.hostData := rfl
@[simp] theorem State.setE_draws (i : RegIdx) (x : Ext) : (s.setE i x).draws = s.draws := rfl

/-! ### setN -/

@[simp] theorem State.setN_b (i : RegIdx) (x : Word) : (s.setN i x).b = s.b := rfl
@[simp] theorem State.setN_e (i : RegIdx) (x : Word) : (s.setN i x).e = s.e := rfl
@[simp] theorem State.setN_n (i : RegIdx) (x : Word) : (s.setN i x).n = s.n.set i.toNat x i.isLt := rfl
@[simp] theorem State.setN_sm (i : RegIdx) (x : Word) : (s.setN i x).sm = s.sm := rfl
@[simp] theorem State.setN_xm (i : RegIdx) (x : Word) : (s.setN i x).xm = s.xm := rfl
@[simp] theorem State.setN_cm (i : RegIdx) (x : Word) : (s.setN i x).cm = s.cm := rfl
@[simp] theorem State.setN_pc (i : RegIdx) (x : Word) : (s.setN i x).pc = s.pc := rfl
@[simp] theorem State.setN_z (i : RegIdx) (x : Word) : (s.setN i x).z = s.z := rfl
@[simp] theorem State.setN_v (i : RegIdx) (x : Word) : (s.setN i x).v = s.v := rfl
@[simp] theorem State.setN_var (i : RegIdx) (x : Word) : (s.setN i x).var = s.var := rfl
@[simp] theorem State.setN_mid (i : RegIdx) (x : Word) : (s.setN i x).mid = s.mid := rfl
@[simp] theorem State.setN_rc (i : RegIdx) (x : Word) : (s.setN i x).rc = s.rc := rfl
@[simp] theorem State.setN_cnt (i : RegIdx) (x : Word) : (s.setN i x).cnt = s.cnt := rfl
@[simp] theorem State.setN_ecode (i : RegIdx) (x : Word) : (s.setN i x).ecode = s.ecode := rfl
@[simp] theorem State.setN_epc (i : RegIdx) (x : Word) : (s.setN i x).epc = s.epc := rfl
@[simp] theorem State.setN_einfo (i : RegIdx) (x : Word) : (s.setN i x).einfo = s.einfo := rfl
@[simp] theorem State.setN_ie (i : RegIdx) (x : Word) : (s.setN i x).ie = s.ie := rfl
@[simp] theorem State.setN_busy (i : RegIdx) (x : Word) : (s.setN i x).busy = s.busy := rfl
@[simp] theorem State.setN_done (i : RegIdx) (x : Word) : (s.setN i x).done = s.done := rfl
@[simp] theorem State.setN_err (i : RegIdx) (x : Word) : (s.setN i x).err = s.err := rfl
@[simp] theorem State.setN_werr (i : RegIdx) (x : Word) : (s.setN i x).werr = s.werr := rfl
@[simp] theorem State.setN_stopReq (i : RegIdx) (x : Word) : (s.setN i x).stopReq = s.stopReq := rfl
@[simp] theorem State.setN_host (i : RegIdx) (x : Word) : (s.setN i x).host = s.host := rfl
@[simp] theorem State.setN_hostData (i : RegIdx) (x : Word) : (s.setN i x).hostData = s.hostData := rfl
@[simp] theorem State.setN_draws (i : RegIdx) (x : Word) : (s.setN i x).draws = s.draws := rfl

/-! ### setZ -/

@[simp] theorem State.setZ_b (x : Bool) : (s.setZ x).b = s.b := rfl
@[simp] theorem State.setZ_e (x : Bool) : (s.setZ x).e = s.e := rfl
@[simp] theorem State.setZ_n (x : Bool) : (s.setZ x).n = s.n := rfl
@[simp] theorem State.setZ_sm (x : Bool) : (s.setZ x).sm = s.sm := rfl
@[simp] theorem State.setZ_xm (x : Bool) : (s.setZ x).xm = s.xm := rfl
@[simp] theorem State.setZ_cm (x : Bool) : (s.setZ x).cm = s.cm := rfl
@[simp] theorem State.setZ_pc (x : Bool) : (s.setZ x).pc = s.pc := rfl
@[simp] theorem State.setZ_z (x : Bool) : (s.setZ x).z = x := rfl
@[simp] theorem State.setZ_v (x : Bool) : (s.setZ x).v = s.v := rfl
@[simp] theorem State.setZ_var (x : Bool) : (s.setZ x).var = s.var := rfl
@[simp] theorem State.setZ_mid (x : Bool) : (s.setZ x).mid = s.mid := rfl
@[simp] theorem State.setZ_rc (x : Bool) : (s.setZ x).rc = s.rc := rfl
@[simp] theorem State.setZ_cnt (x : Bool) : (s.setZ x).cnt = s.cnt := rfl
@[simp] theorem State.setZ_ecode (x : Bool) : (s.setZ x).ecode = s.ecode := rfl
@[simp] theorem State.setZ_epc (x : Bool) : (s.setZ x).epc = s.epc := rfl
@[simp] theorem State.setZ_einfo (x : Bool) : (s.setZ x).einfo = s.einfo := rfl
@[simp] theorem State.setZ_ie (x : Bool) : (s.setZ x).ie = s.ie := rfl
@[simp] theorem State.setZ_busy (x : Bool) : (s.setZ x).busy = s.busy := rfl
@[simp] theorem State.setZ_done (x : Bool) : (s.setZ x).done = s.done := rfl
@[simp] theorem State.setZ_err (x : Bool) : (s.setZ x).err = s.err := rfl
@[simp] theorem State.setZ_werr (x : Bool) : (s.setZ x).werr = s.werr := rfl
@[simp] theorem State.setZ_stopReq (x : Bool) : (s.setZ x).stopReq = s.stopReq := rfl
@[simp] theorem State.setZ_host (x : Bool) : (s.setZ x).host = s.host := rfl
@[simp] theorem State.setZ_hostData (x : Bool) : (s.setZ x).hostData = s.hostData := rfl
@[simp] theorem State.setZ_draws (x : Bool) : (s.setZ x).draws = s.draws := rfl

/-! ### setResult -/

@[simp] theorem State.setResult_b (r : ResultCode) : (s.setResult r).b = s.b := rfl
@[simp] theorem State.setResult_e (r : ResultCode) : (s.setResult r).e = s.e := rfl
@[simp] theorem State.setResult_n (r : ResultCode) : (s.setResult r).n = s.n := rfl
@[simp] theorem State.setResult_sm (r : ResultCode) : (s.setResult r).sm = s.sm := rfl
@[simp] theorem State.setResult_xm (r : ResultCode) : (s.setResult r).xm = s.xm := rfl
@[simp] theorem State.setResult_cm (r : ResultCode) : (s.setResult r).cm = s.cm := rfl
@[simp] theorem State.setResult_pc (r : ResultCode) : (s.setResult r).pc = s.pc := rfl
@[simp] theorem State.setResult_z (r : ResultCode) : (s.setResult r).z = s.z := rfl
@[simp] theorem State.setResult_v (r : ResultCode) : (s.setResult r).v = (r == .ok) := rfl
@[simp] theorem State.setResult_var (r : ResultCode) : (s.setResult r).var = s.var := rfl
@[simp] theorem State.setResult_mid (r : ResultCode) : (s.setResult r).mid = s.mid := rfl
@[simp] theorem State.setResult_rc (r : ResultCode) : (s.setResult r).rc = r := rfl
@[simp] theorem State.setResult_cnt (r : ResultCode) : (s.setResult r).cnt = s.cnt := rfl
@[simp] theorem State.setResult_ecode (r : ResultCode) : (s.setResult r).ecode = s.ecode := rfl
@[simp] theorem State.setResult_epc (r : ResultCode) : (s.setResult r).epc = s.epc := rfl
@[simp] theorem State.setResult_einfo (r : ResultCode) : (s.setResult r).einfo = s.einfo := rfl
@[simp] theorem State.setResult_ie (r : ResultCode) : (s.setResult r).ie = s.ie := rfl
@[simp] theorem State.setResult_busy (r : ResultCode) : (s.setResult r).busy = s.busy := rfl
@[simp] theorem State.setResult_done (r : ResultCode) : (s.setResult r).done = s.done := rfl
@[simp] theorem State.setResult_err (r : ResultCode) : (s.setResult r).err = s.err := rfl
@[simp] theorem State.setResult_werr (r : ResultCode) : (s.setResult r).werr = s.werr := rfl
@[simp] theorem State.setResult_stopReq (r : ResultCode) : (s.setResult r).stopReq = s.stopReq := rfl
@[simp] theorem State.setResult_host (r : ResultCode) : (s.setResult r).host = s.host := rfl
@[simp] theorem State.setResult_hostData (r : ResultCode) : (s.setResult r).hostData = s.hostData := rfl
@[simp] theorem State.setResult_draws (r : ResultCode) : (s.setResult r).draws = s.draws := rfl

/-! ### setSm -/

@[simp] theorem State.setSm_b (a : Nat) (x : Sym) : (s.setSm a x).b = s.b := rfl
@[simp] theorem State.setSm_e (a : Nat) (x : Sym) : (s.setSm a x).e = s.e := rfl
@[simp] theorem State.setSm_n (a : Nat) (x : Sym) : (s.setSm a x).n = s.n := rfl
@[simp] theorem State.setSm_sm (a : Nat) (x : Sym) : (s.setSm a x).sm = s.sm.write a x := rfl
@[simp] theorem State.setSm_xm (a : Nat) (x : Sym) : (s.setSm a x).xm = s.xm := rfl
@[simp] theorem State.setSm_cm (a : Nat) (x : Sym) : (s.setSm a x).cm = s.cm := rfl
@[simp] theorem State.setSm_pc (a : Nat) (x : Sym) : (s.setSm a x).pc = s.pc := rfl
@[simp] theorem State.setSm_z (a : Nat) (x : Sym) : (s.setSm a x).z = s.z := rfl
@[simp] theorem State.setSm_v (a : Nat) (x : Sym) : (s.setSm a x).v = s.v := rfl
@[simp] theorem State.setSm_var (a : Nat) (x : Sym) : (s.setSm a x).var = s.var := rfl
@[simp] theorem State.setSm_mid (a : Nat) (x : Sym) : (s.setSm a x).mid = s.mid := rfl
@[simp] theorem State.setSm_rc (a : Nat) (x : Sym) : (s.setSm a x).rc = s.rc := rfl
@[simp] theorem State.setSm_cnt (a : Nat) (x : Sym) : (s.setSm a x).cnt = s.cnt := rfl
@[simp] theorem State.setSm_ecode (a : Nat) (x : Sym) : (s.setSm a x).ecode = s.ecode := rfl
@[simp] theorem State.setSm_epc (a : Nat) (x : Sym) : (s.setSm a x).epc = s.epc := rfl
@[simp] theorem State.setSm_einfo (a : Nat) (x : Sym) : (s.setSm a x).einfo = s.einfo := rfl
@[simp] theorem State.setSm_ie (a : Nat) (x : Sym) : (s.setSm a x).ie = s.ie := rfl
@[simp] theorem State.setSm_busy (a : Nat) (x : Sym) : (s.setSm a x).busy = s.busy := rfl
@[simp] theorem State.setSm_done (a : Nat) (x : Sym) : (s.setSm a x).done = s.done := rfl
@[simp] theorem State.setSm_err (a : Nat) (x : Sym) : (s.setSm a x).err = s.err := rfl
@[simp] theorem State.setSm_werr (a : Nat) (x : Sym) : (s.setSm a x).werr = s.werr := rfl
@[simp] theorem State.setSm_stopReq (a : Nat) (x : Sym) : (s.setSm a x).stopReq = s.stopReq := rfl
@[simp] theorem State.setSm_host (a : Nat) (x : Sym) : (s.setSm a x).host = s.host := rfl
@[simp] theorem State.setSm_hostData (a : Nat) (x : Sym) : (s.setSm a x).hostData = s.hostData := rfl
@[simp] theorem State.setSm_draws (a : Nat) (x : Sym) : (s.setSm a x).draws = s.draws := rfl

/-! ### setXm -/

@[simp] theorem State.setXm_b (a : Nat) (x : Ext) : (s.setXm a x).b = s.b := rfl
@[simp] theorem State.setXm_e (a : Nat) (x : Ext) : (s.setXm a x).e = s.e := rfl
@[simp] theorem State.setXm_n (a : Nat) (x : Ext) : (s.setXm a x).n = s.n := rfl
@[simp] theorem State.setXm_sm (a : Nat) (x : Ext) : (s.setXm a x).sm = s.sm := rfl
@[simp] theorem State.setXm_xm (a : Nat) (x : Ext) : (s.setXm a x).xm = s.xm.write a x := rfl
@[simp] theorem State.setXm_cm (a : Nat) (x : Ext) : (s.setXm a x).cm = s.cm := rfl
@[simp] theorem State.setXm_pc (a : Nat) (x : Ext) : (s.setXm a x).pc = s.pc := rfl
@[simp] theorem State.setXm_z (a : Nat) (x : Ext) : (s.setXm a x).z = s.z := rfl
@[simp] theorem State.setXm_v (a : Nat) (x : Ext) : (s.setXm a x).v = s.v := rfl
@[simp] theorem State.setXm_var (a : Nat) (x : Ext) : (s.setXm a x).var = s.var := rfl
@[simp] theorem State.setXm_mid (a : Nat) (x : Ext) : (s.setXm a x).mid = s.mid := rfl
@[simp] theorem State.setXm_rc (a : Nat) (x : Ext) : (s.setXm a x).rc = s.rc := rfl
@[simp] theorem State.setXm_cnt (a : Nat) (x : Ext) : (s.setXm a x).cnt = s.cnt := rfl
@[simp] theorem State.setXm_ecode (a : Nat) (x : Ext) : (s.setXm a x).ecode = s.ecode := rfl
@[simp] theorem State.setXm_epc (a : Nat) (x : Ext) : (s.setXm a x).epc = s.epc := rfl
@[simp] theorem State.setXm_einfo (a : Nat) (x : Ext) : (s.setXm a x).einfo = s.einfo := rfl
@[simp] theorem State.setXm_ie (a : Nat) (x : Ext) : (s.setXm a x).ie = s.ie := rfl
@[simp] theorem State.setXm_busy (a : Nat) (x : Ext) : (s.setXm a x).busy = s.busy := rfl
@[simp] theorem State.setXm_done (a : Nat) (x : Ext) : (s.setXm a x).done = s.done := rfl
@[simp] theorem State.setXm_err (a : Nat) (x : Ext) : (s.setXm a x).err = s.err := rfl
@[simp] theorem State.setXm_werr (a : Nat) (x : Ext) : (s.setXm a x).werr = s.werr := rfl
@[simp] theorem State.setXm_stopReq (a : Nat) (x : Ext) : (s.setXm a x).stopReq = s.stopReq := rfl
@[simp] theorem State.setXm_host (a : Nat) (x : Ext) : (s.setXm a x).host = s.host := rfl
@[simp] theorem State.setXm_hostData (a : Nat) (x : Ext) : (s.setXm a x).hostData = s.hostData := rfl
@[simp] theorem State.setXm_draws (a : Nat) (x : Ext) : (s.setXm a x).draws = s.draws := rfl

/-! ### setSmList -/

@[simp] theorem State.setSmList_b (a : Nat) (xs : List Sym) : (s.setSmList a xs).b = s.b := rfl
@[simp] theorem State.setSmList_e (a : Nat) (xs : List Sym) : (s.setSmList a xs).e = s.e := rfl
@[simp] theorem State.setSmList_n (a : Nat) (xs : List Sym) : (s.setSmList a xs).n = s.n := rfl
@[simp] theorem State.setSmList_sm (a : Nat) (xs : List Sym) : (s.setSmList a xs).sm = s.sm.writeList a xs := rfl
@[simp] theorem State.setSmList_xm (a : Nat) (xs : List Sym) : (s.setSmList a xs).xm = s.xm := rfl
@[simp] theorem State.setSmList_cm (a : Nat) (xs : List Sym) : (s.setSmList a xs).cm = s.cm := rfl
@[simp] theorem State.setSmList_pc (a : Nat) (xs : List Sym) : (s.setSmList a xs).pc = s.pc := rfl
@[simp] theorem State.setSmList_z (a : Nat) (xs : List Sym) : (s.setSmList a xs).z = s.z := rfl
@[simp] theorem State.setSmList_v (a : Nat) (xs : List Sym) : (s.setSmList a xs).v = s.v := rfl
@[simp] theorem State.setSmList_var (a : Nat) (xs : List Sym) : (s.setSmList a xs).var = s.var := rfl
@[simp] theorem State.setSmList_mid (a : Nat) (xs : List Sym) : (s.setSmList a xs).mid = s.mid := rfl
@[simp] theorem State.setSmList_rc (a : Nat) (xs : List Sym) : (s.setSmList a xs).rc = s.rc := rfl
@[simp] theorem State.setSmList_cnt (a : Nat) (xs : List Sym) : (s.setSmList a xs).cnt = s.cnt := rfl
@[simp] theorem State.setSmList_ecode (a : Nat) (xs : List Sym) : (s.setSmList a xs).ecode = s.ecode := rfl
@[simp] theorem State.setSmList_epc (a : Nat) (xs : List Sym) : (s.setSmList a xs).epc = s.epc := rfl
@[simp] theorem State.setSmList_einfo (a : Nat) (xs : List Sym) : (s.setSmList a xs).einfo = s.einfo := rfl
@[simp] theorem State.setSmList_ie (a : Nat) (xs : List Sym) : (s.setSmList a xs).ie = s.ie := rfl
@[simp] theorem State.setSmList_busy (a : Nat) (xs : List Sym) : (s.setSmList a xs).busy = s.busy := rfl
@[simp] theorem State.setSmList_done (a : Nat) (xs : List Sym) : (s.setSmList a xs).done = s.done := rfl
@[simp] theorem State.setSmList_err (a : Nat) (xs : List Sym) : (s.setSmList a xs).err = s.err := rfl
@[simp] theorem State.setSmList_werr (a : Nat) (xs : List Sym) : (s.setSmList a xs).werr = s.werr := rfl
@[simp] theorem State.setSmList_stopReq (a : Nat) (xs : List Sym) : (s.setSmList a xs).stopReq = s.stopReq := rfl
@[simp] theorem State.setSmList_host (a : Nat) (xs : List Sym) : (s.setSmList a xs).host = s.host := rfl
@[simp] theorem State.setSmList_hostData (a : Nat) (xs : List Sym) : (s.setSmList a xs).hostData = s.hostData := rfl
@[simp] theorem State.setSmList_draws (a : Nat) (xs : List Sym) : (s.setSmList a xs).draws = s.draws := rfl

/-! ### setXmList -/

@[simp] theorem State.setXmList_b (a : Nat) (xs : List Ext) : (s.setXmList a xs).b = s.b := rfl
@[simp] theorem State.setXmList_e (a : Nat) (xs : List Ext) : (s.setXmList a xs).e = s.e := rfl
@[simp] theorem State.setXmList_n (a : Nat) (xs : List Ext) : (s.setXmList a xs).n = s.n := rfl
@[simp] theorem State.setXmList_sm (a : Nat) (xs : List Ext) : (s.setXmList a xs).sm = s.sm := rfl
@[simp] theorem State.setXmList_xm (a : Nat) (xs : List Ext) : (s.setXmList a xs).xm = s.xm.writeList a xs := rfl
@[simp] theorem State.setXmList_cm (a : Nat) (xs : List Ext) : (s.setXmList a xs).cm = s.cm := rfl
@[simp] theorem State.setXmList_pc (a : Nat) (xs : List Ext) : (s.setXmList a xs).pc = s.pc := rfl
@[simp] theorem State.setXmList_z (a : Nat) (xs : List Ext) : (s.setXmList a xs).z = s.z := rfl
@[simp] theorem State.setXmList_v (a : Nat) (xs : List Ext) : (s.setXmList a xs).v = s.v := rfl
@[simp] theorem State.setXmList_var (a : Nat) (xs : List Ext) : (s.setXmList a xs).var = s.var := rfl
@[simp] theorem State.setXmList_mid (a : Nat) (xs : List Ext) : (s.setXmList a xs).mid = s.mid := rfl
@[simp] theorem State.setXmList_rc (a : Nat) (xs : List Ext) : (s.setXmList a xs).rc = s.rc := rfl
@[simp] theorem State.setXmList_cnt (a : Nat) (xs : List Ext) : (s.setXmList a xs).cnt = s.cnt := rfl
@[simp] theorem State.setXmList_ecode (a : Nat) (xs : List Ext) : (s.setXmList a xs).ecode = s.ecode := rfl
@[simp] theorem State.setXmList_epc (a : Nat) (xs : List Ext) : (s.setXmList a xs).epc = s.epc := rfl
@[simp] theorem State.setXmList_einfo (a : Nat) (xs : List Ext) : (s.setXmList a xs).einfo = s.einfo := rfl
@[simp] theorem State.setXmList_ie (a : Nat) (xs : List Ext) : (s.setXmList a xs).ie = s.ie := rfl
@[simp] theorem State.setXmList_busy (a : Nat) (xs : List Ext) : (s.setXmList a xs).busy = s.busy := rfl
@[simp] theorem State.setXmList_done (a : Nat) (xs : List Ext) : (s.setXmList a xs).done = s.done := rfl
@[simp] theorem State.setXmList_err (a : Nat) (xs : List Ext) : (s.setXmList a xs).err = s.err := rfl
@[simp] theorem State.setXmList_werr (a : Nat) (xs : List Ext) : (s.setXmList a xs).werr = s.werr := rfl
@[simp] theorem State.setXmList_stopReq (a : Nat) (xs : List Ext) : (s.setXmList a xs).stopReq = s.stopReq := rfl
@[simp] theorem State.setXmList_host (a : Nat) (xs : List Ext) : (s.setXmList a xs).host = s.host := rfl
@[simp] theorem State.setXmList_hostData (a : Nat) (xs : List Ext) : (s.setXmList a xs).hostData = s.hostData := rfl
@[simp] theorem State.setXmList_draws (a : Nat) (xs : List Ext) : (s.setXmList a xs).draws = s.draws := rfl

/-! ### setCm -/

@[simp] theorem State.setCm_b (a : Nat) (x : Word) : (s.setCm a x).b = s.b := rfl
@[simp] theorem State.setCm_e (a : Nat) (x : Word) : (s.setCm a x).e = s.e := rfl
@[simp] theorem State.setCm_n (a : Nat) (x : Word) : (s.setCm a x).n = s.n := rfl
@[simp] theorem State.setCm_sm (a : Nat) (x : Word) : (s.setCm a x).sm = s.sm := rfl
@[simp] theorem State.setCm_xm (a : Nat) (x : Word) : (s.setCm a x).xm = s.xm := rfl
@[simp] theorem State.setCm_cm (a : Nat) (x : Word) : (s.setCm a x).cm = s.cm.write a x := rfl
@[simp] theorem State.setCm_pc (a : Nat) (x : Word) : (s.setCm a x).pc = s.pc := rfl
@[simp] theorem State.setCm_z (a : Nat) (x : Word) : (s.setCm a x).z = s.z := rfl
@[simp] theorem State.setCm_v (a : Nat) (x : Word) : (s.setCm a x).v = s.v := rfl
@[simp] theorem State.setCm_var (a : Nat) (x : Word) : (s.setCm a x).var = s.var := rfl
@[simp] theorem State.setCm_mid (a : Nat) (x : Word) : (s.setCm a x).mid = s.mid := rfl
@[simp] theorem State.setCm_rc (a : Nat) (x : Word) : (s.setCm a x).rc = s.rc := rfl
@[simp] theorem State.setCm_cnt (a : Nat) (x : Word) : (s.setCm a x).cnt = s.cnt := rfl
@[simp] theorem State.setCm_ecode (a : Nat) (x : Word) : (s.setCm a x).ecode = s.ecode := rfl
@[simp] theorem State.setCm_epc (a : Nat) (x : Word) : (s.setCm a x).epc = s.epc := rfl
@[simp] theorem State.setCm_einfo (a : Nat) (x : Word) : (s.setCm a x).einfo = s.einfo := rfl
@[simp] theorem State.setCm_ie (a : Nat) (x : Word) : (s.setCm a x).ie = s.ie := rfl
@[simp] theorem State.setCm_busy (a : Nat) (x : Word) : (s.setCm a x).busy = s.busy := rfl
@[simp] theorem State.setCm_done (a : Nat) (x : Word) : (s.setCm a x).done = s.done := rfl
@[simp] theorem State.setCm_err (a : Nat) (x : Word) : (s.setCm a x).err = s.err := rfl
@[simp] theorem State.setCm_werr (a : Nat) (x : Word) : (s.setCm a x).werr = s.werr := rfl
@[simp] theorem State.setCm_stopReq (a : Nat) (x : Word) : (s.setCm a x).stopReq = s.stopReq := rfl
@[simp] theorem State.setCm_host (a : Nat) (x : Word) : (s.setCm a x).host = s.host := rfl
@[simp] theorem State.setCm_hostData (a : Nat) (x : Word) : (s.setCm a x).hostData = s.hostData := rfl
@[simp] theorem State.setCm_draws (a : Nat) (x : Word) : (s.setCm a x).draws = s.draws := rfl

/-! ### setVar -/

@[simp] theorem State.setVar_b (x : Variant) : (s.setVar x).b = s.b := rfl
@[simp] theorem State.setVar_e (x : Variant) : (s.setVar x).e = s.e := rfl
@[simp] theorem State.setVar_n (x : Variant) : (s.setVar x).n = s.n := rfl
@[simp] theorem State.setVar_sm (x : Variant) : (s.setVar x).sm = s.sm := rfl
@[simp] theorem State.setVar_xm (x : Variant) : (s.setVar x).xm = s.xm := rfl
@[simp] theorem State.setVar_cm (x : Variant) : (s.setVar x).cm = s.cm := rfl
@[simp] theorem State.setVar_pc (x : Variant) : (s.setVar x).pc = s.pc := rfl
@[simp] theorem State.setVar_z (x : Variant) : (s.setVar x).z = s.z := rfl
@[simp] theorem State.setVar_v (x : Variant) : (s.setVar x).v = s.v := rfl
@[simp] theorem State.setVar_var (x : Variant) : (s.setVar x).var = x := rfl
@[simp] theorem State.setVar_mid (x : Variant) : (s.setVar x).mid = s.mid := rfl
@[simp] theorem State.setVar_rc (x : Variant) : (s.setVar x).rc = s.rc := rfl
@[simp] theorem State.setVar_cnt (x : Variant) : (s.setVar x).cnt = s.cnt := rfl
@[simp] theorem State.setVar_ecode (x : Variant) : (s.setVar x).ecode = s.ecode := rfl
@[simp] theorem State.setVar_epc (x : Variant) : (s.setVar x).epc = s.epc := rfl
@[simp] theorem State.setVar_einfo (x : Variant) : (s.setVar x).einfo = s.einfo := rfl
@[simp] theorem State.setVar_ie (x : Variant) : (s.setVar x).ie = s.ie := rfl
@[simp] theorem State.setVar_busy (x : Variant) : (s.setVar x).busy = s.busy := rfl
@[simp] theorem State.setVar_done (x : Variant) : (s.setVar x).done = s.done := rfl
@[simp] theorem State.setVar_err (x : Variant) : (s.setVar x).err = s.err := rfl
@[simp] theorem State.setVar_werr (x : Variant) : (s.setVar x).werr = s.werr := rfl
@[simp] theorem State.setVar_stopReq (x : Variant) : (s.setVar x).stopReq = s.stopReq := rfl
@[simp] theorem State.setVar_host (x : Variant) : (s.setVar x).host = s.host := rfl
@[simp] theorem State.setVar_hostData (x : Variant) : (s.setVar x).hostData = s.hostData := rfl
@[simp] theorem State.setVar_draws (x : Variant) : (s.setVar x).draws = s.draws := rfl

/-! ### setMid -/

@[simp] theorem State.setMid_b (m : Midstate) : (s.setMid m).b = s.b := rfl
@[simp] theorem State.setMid_e (m : Midstate) : (s.setMid m).e = s.e := rfl
@[simp] theorem State.setMid_n (m : Midstate) : (s.setMid m).n = s.n := rfl
@[simp] theorem State.setMid_sm (m : Midstate) : (s.setMid m).sm = s.sm := rfl
@[simp] theorem State.setMid_xm (m : Midstate) : (s.setMid m).xm = s.xm := rfl
@[simp] theorem State.setMid_cm (m : Midstate) : (s.setMid m).cm = s.cm := rfl
@[simp] theorem State.setMid_pc (m : Midstate) : (s.setMid m).pc = s.pc := rfl
@[simp] theorem State.setMid_z (m : Midstate) : (s.setMid m).z = s.z := rfl
@[simp] theorem State.setMid_v (m : Midstate) : (s.setMid m).v = s.v := rfl
@[simp] theorem State.setMid_var (m : Midstate) : (s.setMid m).var = s.var := rfl
@[simp] theorem State.setMid_mid (m : Midstate) : (s.setMid m).mid = m := rfl
@[simp] theorem State.setMid_rc (m : Midstate) : (s.setMid m).rc = s.rc := rfl
@[simp] theorem State.setMid_cnt (m : Midstate) : (s.setMid m).cnt = s.cnt := rfl
@[simp] theorem State.setMid_ecode (m : Midstate) : (s.setMid m).ecode = s.ecode := rfl
@[simp] theorem State.setMid_epc (m : Midstate) : (s.setMid m).epc = s.epc := rfl
@[simp] theorem State.setMid_einfo (m : Midstate) : (s.setMid m).einfo = s.einfo := rfl
@[simp] theorem State.setMid_ie (m : Midstate) : (s.setMid m).ie = s.ie := rfl
@[simp] theorem State.setMid_busy (m : Midstate) : (s.setMid m).busy = s.busy := rfl
@[simp] theorem State.setMid_done (m : Midstate) : (s.setMid m).done = s.done := rfl
@[simp] theorem State.setMid_err (m : Midstate) : (s.setMid m).err = s.err := rfl
@[simp] theorem State.setMid_werr (m : Midstate) : (s.setMid m).werr = s.werr := rfl
@[simp] theorem State.setMid_stopReq (m : Midstate) : (s.setMid m).stopReq = s.stopReq := rfl
@[simp] theorem State.setMid_host (m : Midstate) : (s.setMid m).host = s.host := rfl
@[simp] theorem State.setMid_hostData (m : Midstate) : (s.setMid m).hostData = s.hostData := rfl
@[simp] theorem State.setMid_draws (m : Midstate) : (s.setMid m).draws = s.draws := rfl

/-! ### setCnt -/

@[simp] theorem State.setCnt_b (c : Word) : (s.setCnt c).b = s.b := rfl
@[simp] theorem State.setCnt_e (c : Word) : (s.setCnt c).e = s.e := rfl
@[simp] theorem State.setCnt_n (c : Word) : (s.setCnt c).n = s.n := rfl
@[simp] theorem State.setCnt_sm (c : Word) : (s.setCnt c).sm = s.sm := rfl
@[simp] theorem State.setCnt_xm (c : Word) : (s.setCnt c).xm = s.xm := rfl
@[simp] theorem State.setCnt_cm (c : Word) : (s.setCnt c).cm = s.cm := rfl
@[simp] theorem State.setCnt_pc (c : Word) : (s.setCnt c).pc = s.pc := rfl
@[simp] theorem State.setCnt_z (c : Word) : (s.setCnt c).z = s.z := rfl
@[simp] theorem State.setCnt_v (c : Word) : (s.setCnt c).v = s.v := rfl
@[simp] theorem State.setCnt_var (c : Word) : (s.setCnt c).var = s.var := rfl
@[simp] theorem State.setCnt_mid (c : Word) : (s.setCnt c).mid = s.mid := rfl
@[simp] theorem State.setCnt_rc (c : Word) : (s.setCnt c).rc = s.rc := rfl
@[simp] theorem State.setCnt_cnt (c : Word) : (s.setCnt c).cnt = c := rfl
@[simp] theorem State.setCnt_ecode (c : Word) : (s.setCnt c).ecode = s.ecode := rfl
@[simp] theorem State.setCnt_epc (c : Word) : (s.setCnt c).epc = s.epc := rfl
@[simp] theorem State.setCnt_einfo (c : Word) : (s.setCnt c).einfo = s.einfo := rfl
@[simp] theorem State.setCnt_ie (c : Word) : (s.setCnt c).ie = s.ie := rfl
@[simp] theorem State.setCnt_busy (c : Word) : (s.setCnt c).busy = s.busy := rfl
@[simp] theorem State.setCnt_done (c : Word) : (s.setCnt c).done = s.done := rfl
@[simp] theorem State.setCnt_err (c : Word) : (s.setCnt c).err = s.err := rfl
@[simp] theorem State.setCnt_werr (c : Word) : (s.setCnt c).werr = s.werr := rfl
@[simp] theorem State.setCnt_stopReq (c : Word) : (s.setCnt c).stopReq = s.stopReq := rfl
@[simp] theorem State.setCnt_host (c : Word) : (s.setCnt c).host = s.host := rfl
@[simp] theorem State.setCnt_hostData (c : Word) : (s.setCnt c).hostData = s.hostData := rfl
@[simp] theorem State.setCnt_draws (c : Word) : (s.setCnt c).draws = s.draws := rfl

/-! ### jump -/

@[simp] theorem State.jump_b (t : BitVec 16) : (s.jump t).b = s.b := rfl
@[simp] theorem State.jump_e (t : BitVec 16) : (s.jump t).e = s.e := rfl
@[simp] theorem State.jump_n (t : BitVec 16) : (s.jump t).n = s.n := rfl
@[simp] theorem State.jump_sm (t : BitVec 16) : (s.jump t).sm = s.sm := rfl
@[simp] theorem State.jump_xm (t : BitVec 16) : (s.jump t).xm = s.xm := rfl
@[simp] theorem State.jump_cm (t : BitVec 16) : (s.jump t).cm = s.cm := rfl
@[simp] theorem State.jump_pc (t : BitVec 16) : (s.jump t).pc = t := rfl
@[simp] theorem State.jump_z (t : BitVec 16) : (s.jump t).z = s.z := rfl
@[simp] theorem State.jump_v (t : BitVec 16) : (s.jump t).v = s.v := rfl
@[simp] theorem State.jump_var (t : BitVec 16) : (s.jump t).var = s.var := rfl
@[simp] theorem State.jump_mid (t : BitVec 16) : (s.jump t).mid = s.mid := rfl
@[simp] theorem State.jump_rc (t : BitVec 16) : (s.jump t).rc = s.rc := rfl
@[simp] theorem State.jump_cnt (t : BitVec 16) : (s.jump t).cnt = s.cnt := rfl
@[simp] theorem State.jump_ecode (t : BitVec 16) : (s.jump t).ecode = s.ecode := rfl
@[simp] theorem State.jump_epc (t : BitVec 16) : (s.jump t).epc = s.epc := rfl
@[simp] theorem State.jump_einfo (t : BitVec 16) : (s.jump t).einfo = s.einfo := rfl
@[simp] theorem State.jump_ie (t : BitVec 16) : (s.jump t).ie = s.ie := rfl
@[simp] theorem State.jump_busy (t : BitVec 16) : (s.jump t).busy = s.busy := rfl
@[simp] theorem State.jump_done (t : BitVec 16) : (s.jump t).done = s.done := rfl
@[simp] theorem State.jump_err (t : BitVec 16) : (s.jump t).err = s.err := rfl
@[simp] theorem State.jump_werr (t : BitVec 16) : (s.jump t).werr = s.werr := rfl
@[simp] theorem State.jump_stopReq (t : BitVec 16) : (s.jump t).stopReq = s.stopReq := rfl
@[simp] theorem State.jump_host (t : BitVec 16) : (s.jump t).host = s.host := rfl
@[simp] theorem State.jump_hostData (t : BitVec 16) : (s.jump t).hostData = s.hostData := rfl
@[simp] theorem State.jump_draws (t : BitVec 16) : (s.jump t).draws = s.draws := rfl

/-! ### advance -/

@[simp] theorem State.advance_b : (s.advance).b = s.b := rfl
@[simp] theorem State.advance_e : (s.advance).e = s.e := rfl
@[simp] theorem State.advance_n : (s.advance).n = s.n := rfl
@[simp] theorem State.advance_sm : (s.advance).sm = s.sm := rfl
@[simp] theorem State.advance_xm : (s.advance).xm = s.xm := rfl
@[simp] theorem State.advance_cm : (s.advance).cm = s.cm := rfl
@[simp] theorem State.advance_pc : (s.advance).pc = s.pc + 1#16 := rfl
@[simp] theorem State.advance_z : (s.advance).z = s.z := rfl
@[simp] theorem State.advance_v : (s.advance).v = s.v := rfl
@[simp] theorem State.advance_var : (s.advance).var = s.var := rfl
@[simp] theorem State.advance_mid : (s.advance).mid = s.mid := rfl
@[simp] theorem State.advance_rc : (s.advance).rc = s.rc := rfl
@[simp] theorem State.advance_cnt : (s.advance).cnt = s.cnt := rfl
@[simp] theorem State.advance_ecode : (s.advance).ecode = s.ecode := rfl
@[simp] theorem State.advance_epc : (s.advance).epc = s.epc := rfl
@[simp] theorem State.advance_einfo : (s.advance).einfo = s.einfo := rfl
@[simp] theorem State.advance_ie : (s.advance).ie = s.ie := rfl
@[simp] theorem State.advance_busy : (s.advance).busy = s.busy := rfl
@[simp] theorem State.advance_done : (s.advance).done = s.done := rfl
@[simp] theorem State.advance_err : (s.advance).err = s.err := rfl
@[simp] theorem State.advance_werr : (s.advance).werr = s.werr := rfl
@[simp] theorem State.advance_stopReq : (s.advance).stopReq = s.stopReq := rfl
@[simp] theorem State.advance_host : (s.advance).host = s.host := rfl
@[simp] theorem State.advance_hostData : (s.advance).hostData = s.hostData := rfl
@[simp] theorem State.advance_draws : (s.advance).draws = s.draws := rfl

/-! ### takeFault -/

@[simp] theorem State.takeFault_b (c : FaultCode) (x : Word) : (s.takeFault c x).b = s.b := rfl
@[simp] theorem State.takeFault_e (c : FaultCode) (x : Word) : (s.takeFault c x).e = s.e := rfl
@[simp] theorem State.takeFault_n (c : FaultCode) (x : Word) : (s.takeFault c x).n = s.n := rfl
@[simp] theorem State.takeFault_sm (c : FaultCode) (x : Word) : (s.takeFault c x).sm = s.sm := rfl
@[simp] theorem State.takeFault_xm (c : FaultCode) (x : Word) : (s.takeFault c x).xm = s.xm := rfl
@[simp] theorem State.takeFault_cm (c : FaultCode) (x : Word) : (s.takeFault c x).cm = s.cm := rfl
@[simp] theorem State.takeFault_pc (c : FaultCode) (x : Word) : (s.takeFault c x).pc = s.pc := rfl
@[simp] theorem State.takeFault_z (c : FaultCode) (x : Word) : (s.takeFault c x).z = s.z := rfl
@[simp] theorem State.takeFault_v (c : FaultCode) (x : Word) : (s.takeFault c x).v = s.v := rfl
@[simp] theorem State.takeFault_var (c : FaultCode) (x : Word) : (s.takeFault c x).var = s.var := rfl
@[simp] theorem State.takeFault_mid (c : FaultCode) (x : Word) : (s.takeFault c x).mid = s.mid := rfl
@[simp] theorem State.takeFault_rc (c : FaultCode) (x : Word) : (s.takeFault c x).rc = s.rc := rfl
@[simp] theorem State.takeFault_cnt (c : FaultCode) (x : Word) : (s.takeFault c x).cnt = s.cnt := rfl
@[simp] theorem State.takeFault_ecode (c : FaultCode) (x : Word) : (s.takeFault c x).ecode = faultNumber c := rfl
@[simp] theorem State.takeFault_epc (c : FaultCode) (x : Word) : (s.takeFault c x).epc = s.pc := rfl
@[simp] theorem State.takeFault_einfo (c : FaultCode) (x : Word) : (s.takeFault c x).einfo = x := rfl
@[simp] theorem State.takeFault_ie (c : FaultCode) (x : Word) : (s.takeFault c x).ie = s.ie := rfl
@[simp] theorem State.takeFault_busy (c : FaultCode) (x : Word) : (s.takeFault c x).busy = false := rfl
@[simp] theorem State.takeFault_done (c : FaultCode) (x : Word) : (s.takeFault c x).done = s.done := rfl
@[simp] theorem State.takeFault_err (c : FaultCode) (x : Word) : (s.takeFault c x).err = true := rfl
@[simp] theorem State.takeFault_werr (c : FaultCode) (x : Word) : (s.takeFault c x).werr = s.werr := rfl
@[simp] theorem State.takeFault_stopReq (c : FaultCode) (x : Word) : (s.takeFault c x).stopReq = s.stopReq := rfl
@[simp] theorem State.takeFault_host (c : FaultCode) (x : Word) : (s.takeFault c x).host = s.host := rfl
@[simp] theorem State.takeFault_hostData (c : FaultCode) (x : Word) : (s.takeFault c x).hostData = s.hostData := rfl
@[simp] theorem State.takeFault_draws (c : FaultCode) (x : Word) : (s.takeFault c x).draws = s.draws := rfl

/-! ### start -/

@[simp] theorem State.start_b (t : BitVec 16) : (s.start t).b = s.b := rfl
@[simp] theorem State.start_e (t : BitVec 16) : (s.start t).e = s.e := rfl
@[simp] theorem State.start_n (t : BitVec 16) : (s.start t).n = s.n := rfl
@[simp] theorem State.start_sm (t : BitVec 16) : (s.start t).sm = s.sm := rfl
@[simp] theorem State.start_xm (t : BitVec 16) : (s.start t).xm = s.xm := rfl
@[simp] theorem State.start_cm (t : BitVec 16) : (s.start t).cm = s.cm := rfl
@[simp] theorem State.start_pc (t : BitVec 16) : (s.start t).pc = t := rfl
@[simp] theorem State.start_z (t : BitVec 16) : (s.start t).z = s.z := rfl
@[simp] theorem State.start_v (t : BitVec 16) : (s.start t).v = s.v := rfl
@[simp] theorem State.start_var (t : BitVec 16) : (s.start t).var = s.var := rfl
@[simp] theorem State.start_mid (t : BitVec 16) : (s.start t).mid = s.mid := rfl
@[simp] theorem State.start_rc (t : BitVec 16) : (s.start t).rc = s.rc := rfl
@[simp] theorem State.start_cnt (t : BitVec 16) : (s.start t).cnt = s.cnt := rfl
@[simp] theorem State.start_ecode (t : BitVec 16) : (s.start t).ecode = 0#8 := rfl
@[simp] theorem State.start_epc (t : BitVec 16) : (s.start t).epc = s.epc := rfl
@[simp] theorem State.start_einfo (t : BitVec 16) : (s.start t).einfo = s.einfo := rfl
@[simp] theorem State.start_ie (t : BitVec 16) : (s.start t).ie = s.ie := rfl
@[simp] theorem State.start_busy (t : BitVec 16) : (s.start t).busy = true := rfl
@[simp] theorem State.start_done (t : BitVec 16) : (s.start t).done = false := rfl
@[simp] theorem State.start_err (t : BitVec 16) : (s.start t).err = false := rfl
@[simp] theorem State.start_werr (t : BitVec 16) : (s.start t).werr = s.werr := rfl
@[simp] theorem State.start_stopReq (t : BitVec 16) : (s.start t).stopReq = s.stopReq := rfl
@[simp] theorem State.start_host (t : BitVec 16) : (s.start t).host = s.host := rfl
@[simp] theorem State.start_hostData (t : BitVec 16) : (s.start t).hostData = s.hostData := rfl
@[simp] theorem State.start_draws (t : BitVec 16) : (s.start t).draws = s.draws := rfl

/-! ### halt -/

@[simp] theorem State.halt_b : (s.halt).b = s.b := rfl
@[simp] theorem State.halt_e : (s.halt).e = s.e := rfl
@[simp] theorem State.halt_n : (s.halt).n = s.n := rfl
@[simp] theorem State.halt_sm : (s.halt).sm = s.sm := rfl
@[simp] theorem State.halt_xm : (s.halt).xm = s.xm := rfl
@[simp] theorem State.halt_cm : (s.halt).cm = s.cm := rfl
@[simp] theorem State.halt_pc : (s.halt).pc = s.pc := rfl
@[simp] theorem State.halt_z : (s.halt).z = s.z := rfl
@[simp] theorem State.halt_v : (s.halt).v = s.v := rfl
@[simp] theorem State.halt_var : (s.halt).var = s.var := rfl
@[simp] theorem State.halt_mid : (s.halt).mid = s.mid := rfl
@[simp] theorem State.halt_rc : (s.halt).rc = s.rc := rfl
@[simp] theorem State.halt_cnt : (s.halt).cnt = s.cnt := rfl
@[simp] theorem State.halt_ecode : (s.halt).ecode = s.ecode := rfl
@[simp] theorem State.halt_epc : (s.halt).epc = s.epc := rfl
@[simp] theorem State.halt_einfo : (s.halt).einfo = s.einfo := rfl
@[simp] theorem State.halt_ie : (s.halt).ie = s.ie := rfl
@[simp] theorem State.halt_busy : (s.halt).busy = false := rfl
@[simp] theorem State.halt_done : (s.halt).done = true := rfl
@[simp] theorem State.halt_err : (s.halt).err = s.err := rfl
@[simp] theorem State.halt_werr : (s.halt).werr = s.werr := rfl
@[simp] theorem State.halt_stopReq : (s.halt).stopReq = s.stopReq := rfl
@[simp] theorem State.halt_host : (s.halt).host = s.host := rfl
@[simp] theorem State.halt_hostData : (s.halt).hostData = s.hostData := rfl
@[simp] theorem State.halt_draws : (s.halt).draws = s.draws := rfl

/-! ### softReset -/

@[simp] theorem State.softReset_b : (s.softReset).b = s.b := rfl
@[simp] theorem State.softReset_e : (s.softReset).e = s.e := rfl
@[simp] theorem State.softReset_n : (s.softReset).n = s.n := rfl
@[simp] theorem State.softReset_sm : (s.softReset).sm = s.sm := rfl
@[simp] theorem State.softReset_xm : (s.softReset).xm = s.xm := rfl
@[simp] theorem State.softReset_cm : (s.softReset).cm = s.cm := rfl
@[simp] theorem State.softReset_pc : (s.softReset).pc = 0x0000#16 := rfl
@[simp] theorem State.softReset_z : (s.softReset).z = false := rfl
@[simp] theorem State.softReset_v : (s.softReset).v = false := rfl
@[simp] theorem State.softReset_var : (s.softReset).var = .bech32 := rfl
@[simp] theorem State.softReset_mid : (s.softReset).mid = 0x00000001#30 := rfl
@[simp] theorem State.softReset_rc : (s.softReset).rc = .ok := rfl
@[simp] theorem State.softReset_cnt : (s.softReset).cnt = 0#32 := rfl
@[simp] theorem State.softReset_ecode : (s.softReset).ecode = 0#8 := rfl
@[simp] theorem State.softReset_epc : (s.softReset).epc = 0#16 := rfl
@[simp] theorem State.softReset_einfo : (s.softReset).einfo = 0#32 := rfl
@[simp] theorem State.softReset_ie : (s.softReset).ie = false := rfl
@[simp] theorem State.softReset_busy : (s.softReset).busy = false := rfl
@[simp] theorem State.softReset_done : (s.softReset).done = false := rfl
@[simp] theorem State.softReset_err : (s.softReset).err = false := rfl
@[simp] theorem State.softReset_werr : (s.softReset).werr = false := rfl
@[simp] theorem State.softReset_stopReq : (s.softReset).stopReq = false := rfl
@[simp] theorem State.softReset_host : (s.softReset).host = s.host := rfl
@[simp] theorem State.softReset_hostData : (s.softReset).hostData = s.hostData := rfl
@[simp] theorem State.softReset_draws : (s.softReset).draws = s.draws := rfl

/-! ### Register reads -/

@[simp] theorem State.getB_setB_same (i : RegIdx) (x : Sym) : (s.setB i x).getB i = x := by
  simp [State.getB]

theorem State.getB_setB_other {i j : RegIdx} (x : Sym) (h : j ≠ i) : (s.setB i x).getB j = s.getB j := by
  have h' : i.toNat ≠ j.toNat := fun e => h (BitVec.eq_of_toNat_eq e.symm)
  simp [State.getB, h']

theorem State.getB_setB (i j : RegIdx) (x : Sym) : (s.setB i x).getB j = if j = i then x else s.getB j := by
  by_cases h : j = i
  · subst h; simp
  · simp [h, State.getB_setB_other]

@[simp] theorem State.getB_setE (i : RegIdx) (x : Ext) (j : RegIdx) : (s.setE i x).getB j = s.getB j := rfl
@[simp] theorem State.getB_setN (i : RegIdx) (x : Word) (j : RegIdx) : (s.setN i x).getB j = s.getB j := rfl
@[simp] theorem State.getB_setZ (x : Bool) (j : RegIdx) : (s.setZ x).getB j = s.getB j := rfl
@[simp] theorem State.getB_setResult (r : ResultCode) (j : RegIdx) : (s.setResult r).getB j = s.getB j := rfl
@[simp] theorem State.getB_setSm (a : Nat) (x : Sym) (j : RegIdx) : (s.setSm a x).getB j = s.getB j := rfl
@[simp] theorem State.getB_setXm (a : Nat) (x : Ext) (j : RegIdx) : (s.setXm a x).getB j = s.getB j := rfl
@[simp] theorem State.getB_setSmList (a : Nat) (xs : List Sym) (j : RegIdx) : (s.setSmList a xs).getB j = s.getB j := rfl
@[simp] theorem State.getB_setXmList (a : Nat) (xs : List Ext) (j : RegIdx) : (s.setXmList a xs).getB j = s.getB j := rfl
@[simp] theorem State.getB_setCm (a : Nat) (x : Word) (j : RegIdx) : (s.setCm a x).getB j = s.getB j := rfl
@[simp] theorem State.getB_setVar (x : Variant) (j : RegIdx) : (s.setVar x).getB j = s.getB j := rfl
@[simp] theorem State.getB_setMid (m : Midstate) (j : RegIdx) : (s.setMid m).getB j = s.getB j := rfl
@[simp] theorem State.getB_setCnt (c : Word) (j : RegIdx) : (s.setCnt c).getB j = s.getB j := rfl
@[simp] theorem State.getB_jump (t : BitVec 16) (j : RegIdx) : (s.jump t).getB j = s.getB j := rfl
@[simp] theorem State.getB_advance (j : RegIdx) : (s.advance).getB j = s.getB j := rfl
@[simp] theorem State.getB_takeFault (c : FaultCode) (x : Word) (j : RegIdx) : (s.takeFault c x).getB j = s.getB j := rfl
@[simp] theorem State.getB_start (t : BitVec 16) (j : RegIdx) : (s.start t).getB j = s.getB j := rfl
@[simp] theorem State.getB_halt (j : RegIdx) : (s.halt).getB j = s.getB j := rfl
@[simp] theorem State.getB_softReset (j : RegIdx) : (s.softReset).getB j = s.getB j := rfl

@[simp] theorem State.getE_setE_same (i : RegIdx) (x : Ext) : (s.setE i x).getE i = x := by
  simp [State.getE]

theorem State.getE_setE_other {i j : RegIdx} (x : Ext) (h : j ≠ i) : (s.setE i x).getE j = s.getE j := by
  have h' : i.toNat ≠ j.toNat := fun e => h (BitVec.eq_of_toNat_eq e.symm)
  simp [State.getE, h']

theorem State.getE_setE (i j : RegIdx) (x : Ext) : (s.setE i x).getE j = if j = i then x else s.getE j := by
  by_cases h : j = i
  · subst h; simp
  · simp [h, State.getE_setE_other]

@[simp] theorem State.getE_setB (i : RegIdx) (x : Sym) (j : RegIdx) : (s.setB i x).getE j = s.getE j := rfl
@[simp] theorem State.getE_setN (i : RegIdx) (x : Word) (j : RegIdx) : (s.setN i x).getE j = s.getE j := rfl
@[simp] theorem State.getE_setZ (x : Bool) (j : RegIdx) : (s.setZ x).getE j = s.getE j := rfl
@[simp] theorem State.getE_setResult (r : ResultCode) (j : RegIdx) : (s.setResult r).getE j = s.getE j := rfl
@[simp] theorem State.getE_setSm (a : Nat) (x : Sym) (j : RegIdx) : (s.setSm a x).getE j = s.getE j := rfl
@[simp] theorem State.getE_setXm (a : Nat) (x : Ext) (j : RegIdx) : (s.setXm a x).getE j = s.getE j := rfl
@[simp] theorem State.getE_setSmList (a : Nat) (xs : List Sym) (j : RegIdx) : (s.setSmList a xs).getE j = s.getE j := rfl
@[simp] theorem State.getE_setXmList (a : Nat) (xs : List Ext) (j : RegIdx) : (s.setXmList a xs).getE j = s.getE j := rfl
@[simp] theorem State.getE_setCm (a : Nat) (x : Word) (j : RegIdx) : (s.setCm a x).getE j = s.getE j := rfl
@[simp] theorem State.getE_setVar (x : Variant) (j : RegIdx) : (s.setVar x).getE j = s.getE j := rfl
@[simp] theorem State.getE_setMid (m : Midstate) (j : RegIdx) : (s.setMid m).getE j = s.getE j := rfl
@[simp] theorem State.getE_setCnt (c : Word) (j : RegIdx) : (s.setCnt c).getE j = s.getE j := rfl
@[simp] theorem State.getE_jump (t : BitVec 16) (j : RegIdx) : (s.jump t).getE j = s.getE j := rfl
@[simp] theorem State.getE_advance (j : RegIdx) : (s.advance).getE j = s.getE j := rfl
@[simp] theorem State.getE_takeFault (c : FaultCode) (x : Word) (j : RegIdx) : (s.takeFault c x).getE j = s.getE j := rfl
@[simp] theorem State.getE_start (t : BitVec 16) (j : RegIdx) : (s.start t).getE j = s.getE j := rfl
@[simp] theorem State.getE_halt (j : RegIdx) : (s.halt).getE j = s.getE j := rfl
@[simp] theorem State.getE_softReset (j : RegIdx) : (s.softReset).getE j = s.getE j := rfl

@[simp] theorem State.getN_setN_same (i : RegIdx) (x : Word) : (s.setN i x).getN i = x := by
  simp [State.getN]

theorem State.getN_setN_other {i j : RegIdx} (x : Word) (h : j ≠ i) : (s.setN i x).getN j = s.getN j := by
  have h' : i.toNat ≠ j.toNat := fun e => h (BitVec.eq_of_toNat_eq e.symm)
  simp [State.getN, h']

theorem State.getN_setN (i j : RegIdx) (x : Word) : (s.setN i x).getN j = if j = i then x else s.getN j := by
  by_cases h : j = i
  · subst h; simp
  · simp [h, State.getN_setN_other]

@[simp] theorem State.getN_setB (i : RegIdx) (x : Sym) (j : RegIdx) : (s.setB i x).getN j = s.getN j := rfl
@[simp] theorem State.getN_setE (i : RegIdx) (x : Ext) (j : RegIdx) : (s.setE i x).getN j = s.getN j := rfl
@[simp] theorem State.getN_setZ (x : Bool) (j : RegIdx) : (s.setZ x).getN j = s.getN j := rfl
@[simp] theorem State.getN_setResult (r : ResultCode) (j : RegIdx) : (s.setResult r).getN j = s.getN j := rfl
@[simp] theorem State.getN_setSm (a : Nat) (x : Sym) (j : RegIdx) : (s.setSm a x).getN j = s.getN j := rfl
@[simp] theorem State.getN_setXm (a : Nat) (x : Ext) (j : RegIdx) : (s.setXm a x).getN j = s.getN j := rfl
@[simp] theorem State.getN_setSmList (a : Nat) (xs : List Sym) (j : RegIdx) : (s.setSmList a xs).getN j = s.getN j := rfl
@[simp] theorem State.getN_setXmList (a : Nat) (xs : List Ext) (j : RegIdx) : (s.setXmList a xs).getN j = s.getN j := rfl
@[simp] theorem State.getN_setCm (a : Nat) (x : Word) (j : RegIdx) : (s.setCm a x).getN j = s.getN j := rfl
@[simp] theorem State.getN_setVar (x : Variant) (j : RegIdx) : (s.setVar x).getN j = s.getN j := rfl
@[simp] theorem State.getN_setMid (m : Midstate) (j : RegIdx) : (s.setMid m).getN j = s.getN j := rfl
@[simp] theorem State.getN_setCnt (c : Word) (j : RegIdx) : (s.setCnt c).getN j = s.getN j := rfl
@[simp] theorem State.getN_jump (t : BitVec 16) (j : RegIdx) : (s.jump t).getN j = s.getN j := rfl
@[simp] theorem State.getN_advance (j : RegIdx) : (s.advance).getN j = s.getN j := rfl
@[simp] theorem State.getN_takeFault (c : FaultCode) (x : Word) (j : RegIdx) : (s.takeFault c x).getN j = s.getN j := rfl
@[simp] theorem State.getN_start (t : BitVec 16) (j : RegIdx) : (s.start t).getN j = s.getN j := rfl
@[simp] theorem State.getN_halt (j : RegIdx) : (s.halt).getN j = s.getN j := rfl
@[simp] theorem State.getN_softReset (j : RegIdx) : (s.softReset).getN j = s.getN j := rfl

end Sys2Proof.Machine
end

