-- ==== Sys2Proof/Laws/Ops.lean ====
section
/-! SUPPORT. What each shared operation can do, said once: the provers cite these instead of unfolding it. -/

namespace Sys2Proof.Machine

/-- A command ends in a next state either because its body gave it or because the body raised a fault, taken in the
state the command began in (00_scope.md R21, 60_exceptions.md R343). -/
theorem State.finish_next {s t : State} {r : Except Stop State} :
    s.finish r = .next t ↔ r = .ok t ∨ ∃ c info, r = .error (.raise c info) ∧ t = s.takeFault c info := by
  cases r with
  | ok u => simp [State.finish]
  | error e => cases e <;> simp [State.finish, eq_comm]

@[simp] theorem State.finish_ok (s t : State) : s.finish (.ok t) = .next t := rfl

@[simp] theorem State.finish_raise (s : State) (c : FaultCode) (info : Word) :
    s.finish (.error (.raise c info)) = .next (s.takeFault c info) := rfl

@[simp] theorem State.finish_refuse (s : State) (r : Refusal) : s.finish (.error (.refuse r)) = .refused r := rfl

/-- No command's end is a fault of the model (log 12). -/
theorem State.finish_ne_fault (s : State) (r : Except Stop State) (f : Fault) : s.finish r ≠ .fault f := nomatch f

@[simp] theorem bind_ok {α β : Type} (a : α) (f : α → Except Stop β) : (Except.ok a >>= f) = f a := rfl

@[simp] theorem bind_error {α β : Type} (e : Stop) (f : α → Except Stop β) :
    ((Except.error e : Except Stop α) >>= f) = Except.error e := rfl

@[simp] theorem pure_ok {α : Type} (a : α) : (pure a : Except Stop α) = Except.ok a := rfl

@[simp] theorem throw_error {α : Type} (e : Stop) : (throw e : Except Stop α) = Except.error e := rfl

theorem bind_eq_ok {α β : Type} {x : Except Stop α} {f : α → Except Stop β} {b : β} :
    (x >>= f) = .ok b ↔ ∃ a, x = .ok a ∧ f a = .ok b := by
  cases x <;> simp

theorem checkAddr_ok {c : FaultCode} {size ea : Nat} : checkAddr c size ea = .ok () ↔ ea < size := by
  unfold checkAddr; split <;> simp <;> omega

theorem checkAddr_raise (c : FaultCode) {size ea : Nat} (h : size ≤ ea) :
    checkAddr c size ea = .error (.raise c (BitVec.ofNat 32 ea)) := if_pos h

theorem checkRegion_ok {c : FaultCode} {size base len : Nat} :
    checkRegion c size base len = .ok () ↔ len = 0 ∨ base + len ≤ size := by
  unfold checkRegion; split <;> simp [*]

theorem checkRegion_raise (c : FaultCode) {size base len : Nat} (h : ¬(len = 0 ∨ base + len ≤ size)) :
    checkRegion c size base len = .error (.raise c (BitVec.ofNat 32 (max base size))) := if_neg h

theorem readWord_ok {w : Nat} {m : Memory w} {r : Nat → Refusal} {a : Nat} {x : BitVec w} :
    readWord m r a = .ok x ↔ m.read? a = some x := by
  unfold readWord; split <;> simp [*]

/-- A region read succeeds exactly when every word of it is written, and gives those words in order. -/
theorem readWords_ok {w : Nat} {m : Memory w} {r : Nat → Refusal} {base len : Nat} {xs : List (BitVec w)} :
    readWords m r base len = .ok xs ↔ xs.length = len ∧ ∀ j (h : j < xs.length), m.read? (base + j) = some xs[j] := by
  induction len generalizing base xs with
  | zero =>
    constructor
    · intro h
      cases h
      simp
    · rintro ⟨h, -⟩
      rw [List.eq_nil_of_length_eq_zero h]
      rfl
  | succ len ih =>
    constructor
    · intro h
      unfold readWords at h
      split at h
      · cases h
      · rename_i x hx
        split at h
        · cases h
        · rename_i ys hys
          cases h
          obtain ⟨hl, hj⟩ := ih.mp hys
          refine ⟨by simp [hl], fun j hjl => ?_⟩
          cases j with
          | zero => simpa using readWord_ok.mp hx
          | succ j =>
            have := hj j (by simpa using hjl)
            simpa [Nat.add_assoc, Nat.add_comm 1 j] using this
    · rintro ⟨hl, hj⟩
      cases xs with
      | nil => simp at hl
      | cons x xs =>
        have h0 : readWord m r base = .ok x := readWord_ok.mpr (hj 0 (by simp))
        have h1 : readWords m r (base + 1) len = .ok xs :=
          ih.mpr ⟨by simpa using hl, fun j h => by
            have := hj (j + 1) (by simpa using h)
            simpa [Nat.add_assoc, Nat.add_comm 1 j] using this⟩
        simp [readWords, h0, h1]

/-- A polynomial result either fits and is written through its descriptor, or raises XM_RANGE (20_memory.md R83). -/
theorem State.putPoly_ok {s t : State} {k : RegIdx} {xs : List Ext} {z : Bool} :
    s.putPoly k xs z = .ok t ↔
      (xs.length = 0 ∨ descBase (s.getN k) + xs.length ≤ Config.xmSize) ∧
      t = (((s.setXmList (descBase (s.getN k)) xs).setN k (descWithLen (s.getN k) xs.length)).setZ z).advance := by
  unfold State.putPoly
  by_cases h : xs.length = 0 ∨ descBase (s.getN k) + xs.length ≤ Config.xmSize
  · simp only [checkRegion_ok.mpr h, Except.ok.injEq, h, true_and]
    exact eq_comm
  · simp only [checkRegion_raise _ h, reduceCtorEq, h, false_and]

theorem State.putPoly_raise {s : State} {k : RegIdx} {xs : List Ext} (z : Bool)
    (h : ¬(xs.length = 0 ∨ descBase (s.getN k) + xs.length ≤ Config.xmSize)) :
    s.putPoly k xs z = .error (.raise .xmRange (BitVec.ofNat 32 (max (descBase (s.getN k)) Config.xmSize))) := by
  simp [State.putPoly, checkRegion_raise _ h]

theorem State.checkSm_ok {s : State} {k : RegIdx} :
    s.checkSm k = .ok () ↔ descLen (s.getN k) = 0 ∨ descBase (s.getN k) + descLen (s.getN k) ≤ Config.smSize :=
  checkRegion_ok

theorem State.checkXm_ok {s : State} {k : RegIdx} :
    s.checkXm k = .ok () ↔ descLen (s.getN k) = 0 ∨ descBase (s.getN k) + descLen (s.getN k) ≤ Config.xmSize :=
  checkRegion_ok

theorem State.smRegion_length {s : State} {k : RegIdx} {xs : List Sym} (h : s.smRegion k = .ok xs) :
    xs.length = descLen (s.getN k) := (readWords_ok.mp h).1

theorem State.xmRegion_length {s : State} {k : RegIdx} {xs : List Ext} (h : s.xmRegion k = .ok xs) :
    xs.length = descLen (s.getN k) := (readWords_ok.mp h).1

end Sys2Proof.Machine
end

