-- ==== Sys2Proof/Laws/PerInstr.lean ====
section
/-! SUPPORT. The per-instruction family Opcode: the opcode field of every command's word is the OP the opcode map gives
the command (30_encoding.md R111, R117), whatever its fields hold. -/

namespace Sys2Proof.Laws.Opcode

/-- The OP column of the opcode map (30_encoding.md R117). -/
def op : Instr → BitVec 6
  | .halt => 0x01#6
  | .nop => 0x02#6
  | .bc _ _ => 0x03#6
  | .dbnz _ _ => 0x04#6
  | .lib _ _ => 0x08#6
  | .addb _ _ _ => 0x09#6
  | .mulb _ _ _ => 0x0A#6
  | .invb _ _ => 0x0B#6
  | .powb _ _ _ => 0x0C#6
  | .negb _ _ => 0x0D#6
  | .lie _ _ => 0x10#6
  | .adde _ _ _ => 0x11#6
  | .mule _ _ _ => 0x12#6
  | .inve _ _ => 0x13#6
  | .powe _ _ _ => 0x14#6
  | .nege _ _ => 0x15#6
  | .emb _ _ => 0x16#6
  | .prj _ _ => 0x17#6
  | .lin _ _ => 0x18#6
  | .lhn _ _ => 0x19#6
  | .naddi _ _ _ => 0x1A#6
  | .lds _ _ _ => 0x1C#6
  | .sts _ _ _ => 0x1D#6
  | .ldx _ _ _ => 0x1E#6
  | .stx _ _ _ => 0x1F#6
  | .pemb _ _ => 0x20#6
  | .pevb _ _ _ => 0x21#6
  | .peve _ _ _ => 0x22#6
  | .pmul _ _ _ => 0x23#6
  | .pmulx _ _ _ _ => 0x24#6
  | .prem _ _ _ => 0x25#6
  | .pder _ _ => 0x26#6
  | .setv _ => 0x28#6
  | .lrst => 0x29#6
  | .lfb _ => 0x2A#6
  | .lfm _ => 0x2B#6
  | .lchk _ => 0x2C#6
  | .lver => 0x2D#6
  | .lres _ => 0x2E#6
  | .synd _ => 0x30#6
  | .loc _ _ => 0x31#6
  | .roots _ _ _ => 0x32#6
  | .forney _ _ _ _ => 0x33#6
  | .corr _ _ => 0x34#6
  | .selft => 0x35#6

/-- The word of i holds the OP of i in bits 31:26. -/
def Statement (i : Instr) : Prop := opField (encode i) = op i

theorem halt : Statement (.halt) := opField_encF0 _
theorem nop : Statement (.nop) := opField_encF0 _
theorem bc (cond : BitVec 4) (target : BitVec 16) : Statement (.bc cond target) := opField_encFB _ _ _
theorem dbnz (rd : RegIdx) (target : BitVec 16) : Statement (.dbnz rd target) := opField_encFI _ _ _
theorem lib (rd : RegIdx) (imm : BitVec 5) : Statement (.lib rd imm) := opField_encFI _ _ _
theorem addb (rd : RegIdx) (ra : RegIdx) (rb : RegIdx) : Statement (.addb rd ra rb) := opField_encFR _ _ _ _
theorem mulb (rd : RegIdx) (ra : RegIdx) (rb : RegIdx) : Statement (.mulb rd ra rb) := opField_encFR _ _ _ _
theorem invb (rd : RegIdx) (ra : RegIdx) : Statement (.invb rd ra) := opField_encFR _ _ _ _
theorem powb (rd : RegIdx) (ra : RegIdx) (rb : RegIdx) : Statement (.powb rd ra rb) := opField_encFR _ _ _ _
theorem negb (rd : RegIdx) (ra : RegIdx) : Statement (.negb rd ra) := opField_encFR _ _ _ _
theorem lie (rd : RegIdx) (imm : BitVec 10) : Statement (.lie rd imm) := opField_encFI _ _ _
theorem adde (rd : RegIdx) (ra : RegIdx) (rb : RegIdx) : Statement (.adde rd ra rb) := opField_encFR _ _ _ _
theorem mule (rd : RegIdx) (ra : RegIdx) (rb : RegIdx) : Statement (.mule rd ra rb) := opField_encFR _ _ _ _
theorem inve (rd : RegIdx) (ra : RegIdx) : Statement (.inve rd ra) := opField_encFR _ _ _ _
theorem powe (rd : RegIdx) (ra : RegIdx) (rb : RegIdx) : Statement (.powe rd ra rb) := opField_encFR _ _ _ _
theorem nege (rd : RegIdx) (ra : RegIdx) : Statement (.nege rd ra) := opField_encFR _ _ _ _
theorem emb (rd : RegIdx) (ra : RegIdx) : Statement (.emb rd ra) := opField_encFR _ _ _ _
theorem prj (rd : RegIdx) (ra : RegIdx) : Statement (.prj rd ra) := opField_encFR _ _ _ _
theorem lin (rd : RegIdx) (imm : BitVec 16) : Statement (.lin rd imm) := opField_encFI _ _ _
theorem lhn (rd : RegIdx) (imm : BitVec 16) : Statement (.lhn rd imm) := opField_encFI _ _ _
theorem naddi (rd : RegIdx) (ra : RegIdx) (imm : BitVec 16) : Statement (.naddi rd ra imm) := opField_encFRI _ _ _ _
theorem lds (rd : RegIdx) (ra : RegIdx) (imm : BitVec 16) : Statement (.lds rd ra imm) := opField_encFRI _ _ _ _
theorem sts (rd : RegIdx) (ra : RegIdx) (imm : BitVec 16) : Statement (.sts rd ra imm) := opField_encFRI _ _ _ _
theorem ldx (rd : RegIdx) (ra : RegIdx) (imm : BitVec 16) : Statement (.ldx rd ra imm) := opField_encFRI _ _ _ _
theorem stx (rd : RegIdx) (ra : RegIdx) (imm : BitVec 16) : Statement (.stx rd ra imm) := opField_encFRI _ _ _ _
theorem pemb (rd : RegIdx) (ra : RegIdx) : Statement (.pemb rd ra) := opField_encFR _ _ _ _
theorem pevb (rd : RegIdx) (ra : RegIdx) (rb : RegIdx) : Statement (.pevb rd ra rb) := opField_encFR _ _ _ _
theorem peve (rd : RegIdx) (ra : RegIdx) (rb : RegIdx) : Statement (.peve rd ra rb) := opField_encFR _ _ _ _
theorem pmul (rd : RegIdx) (ra : RegIdx) (rb : RegIdx) : Statement (.pmul rd ra rb) := opField_encFR _ _ _ _
theorem pmulx (rd : RegIdx) (ra : RegIdx) (rb : RegIdx) (imm : BitVec 16) : Statement (.pmulx rd ra rb imm) := opField_encFRRI _ _ _ _ _
theorem prem (rd : RegIdx) (ra : RegIdx) (rb : RegIdx) : Statement (.prem rd ra rb) := opField_encFR _ _ _ _
theorem pder (rd : RegIdx) (ra : RegIdx) : Statement (.pder rd ra) := opField_encFR _ _ _ _
theorem setv (variant : BitVec 2) : Statement (.setv variant) := opField_encFI _ _ _
theorem lrst : Statement (.lrst) := opField_encF0 _
theorem lfb (ra : RegIdx) : Statement (.lfb ra) := opField_encFR _ _ _ _
theorem lfm (ra : RegIdx) : Statement (.lfm ra) := opField_encFR _ _ _ _
theorem lchk (rd : RegIdx) : Statement (.lchk rd) := opField_encFR _ _ _ _
theorem lver : Statement (.lver) := opField_encF0 _
theorem lres (rd : RegIdx) : Statement (.lres rd) := opField_encFR _ _ _ _
theorem synd (rd : RegIdx) : Statement (.synd rd) := opField_encFR _ _ _ _
theorem loc (rd : RegIdx) (ra : RegIdx) : Statement (.loc rd ra) := opField_encFR _ _ _ _
theorem roots (rd : RegIdx) (ra : RegIdx) (rb : RegIdx) : Statement (.roots rd ra rb) := opField_encFR _ _ _ _
theorem forney (rd : RegIdx) (ra : RegIdx) (rb : RegIdx) (rc : RegIdx) : Statement (.forney rd ra rb rc) := opField_encFR4 _ _ _ _ _
theorem corr (rd : RegIdx) (ra : RegIdx) : Statement (.corr rd ra) := opField_encFR _ _ _ _
theorem selft : Statement (.selft) := opField_encF0 _

end Sys2Proof.Laws.Opcode
end

