-- ==== Sys2Proof/Laws/Step.lean ====
section
/-! SUPPORT. What a step can do, said once (45_sequencer_data.md R311, 20_memory.md R77, log 5): the provers take a step
apart with these instead of unfolding it. -/

namespace Sys2Proof.Machine

/-- A write of anything but CTRL to a running unit is dropped and sets WERR (20_memory.md R77, log 8). -/
theorem State.writeBusy_of_ne_ctrl (s : State) (x : Word) {tg : WindowTarget} (h : tg ≠ .ctrl) :
    s.writeBusy tg x = { s with werr := true } := by
  cases tg <;> first | rfl | exact absurd rfl h

/-- What stands behind an offset is a value, or a refusal of an unwritten word (10_state.md R57). -/
theorem State.windowValue_cases (s : State) (tg : WindowTarget) :
    (∃ x, s.windowValue tg = .ok x) ∨ ∃ r, s.windowValue tg = .error (.refuse r) := by
  have hw {w : Nat} (m : Memory w) (r : Nat → Refusal) (a : Nat) :
      (∃ x, readWord m r a = .ok x) ∨ readWord m r a = .error (.refuse (r a)) := by
    unfold readWord
    cases m.read? a <;> simp
  cases tg with
  | cm i => exact (hw s.cm .unwrittenCommand i).imp_right fun h => ⟨_, h⟩
  | xm i =>
    rcases hw s.xm .unwrittenExtension i with ⟨x, h⟩ | h
    · exact .inl ⟨_, by simp only [State.windowValue, h]; rfl⟩
    · exact .inr ⟨_, by simp only [State.windowValue, h]; rfl⟩
  | sm i =>
    rcases hw s.sm .unwrittenSymbol i with ⟨x, h⟩ | h
    · exact .inl ⟨_, by simp only [State.windowValue, h]; rfl⟩
    · exact .inr ⟨_, by simp only [State.windowValue, h]; rfl⟩
  | _ => exact .inl ⟨_, rfl⟩

/-- A host read changes hostData and the count of draws only, or is refused (20_memory.md R78, 10_state.md R57). -/
theorem State.hostRead_cases (s : State) (tg : WindowTarget) :
    (∃ x n, s.hostRead tg = .ok { s with hostData := x, draws := n }) ∨ ∃ r, s.hostRead tg = .error (.refuse r) := by
  unfold State.hostRead
  split
  · exact .inl ⟨_, _, rfl⟩
  · rcases s.windowValue_cases tg with ⟨x, h⟩ | ⟨r, h⟩
    · exact .inl ⟨x, s.draws, by rw [h]⟩
    · exact .inr ⟨r, by rw [h]⟩

/-- An answered step is the sequencer's turn, a host read, a host write, or a hard reset, after the head of the host's
list is taken off. -/
theorem step_next {s t : State} (h : step s = .next t) :
    (s.host = [] ∧ s.sequencerStep = .next t) ∨
    ∃ rest, (s.host = .wait :: rest ∧ { s with host := rest }.sequencerStep = .next t) ∨
      (∃ off, s.host = .read off 4 :: rest ∧ off.toNat % 4 = 0 ∧
        { s with host := rest }.hostRead (windowTarget off) = .ok t) ∨
      (∃ off x, s.host = .write off 4 x :: rest ∧ off.toNat % 4 = 0 ∧
        t = { s with host := rest }.hostWrite (windowTarget off) x) ∨
      (s.host = .hardReset :: rest ∧ t = { s with host := rest }.hardReset) := by
  unfold step unitStep at h
  split at h
  · exact .inl ⟨‹_›, h⟩
  · rename_i e rest he
    refine .inr ⟨rest, ?_⟩
    cases e with
    | wait => exact .inl ⟨he, h⟩
    | read off size =>
      simp only [State.turn] at h
      split at h
      · rename_i ha
        simp only [accessOk, Bool.and_eq_true, beq_iff_eq] at ha
        obtain ⟨rfl, ha⟩ := ha
        refine .inr (.inl ⟨off, he, ha, ?_⟩)
        rcases State.hostRead_cases { s with host := rest } (windowTarget off) with ⟨x, n, hr⟩ | ⟨r, hr⟩
        · rw [hr] at h ⊢
          cases h
          rfl
        · rw [hr] at h
          cases h
      · cases h
    | write off size x =>
      simp only [State.turn] at h
      split at h
      · rename_i ha
        simp only [accessOk, Bool.and_eq_true, beq_iff_eq] at ha
        obtain ⟨rfl, ha⟩ := ha
        cases h
        exact .inr (.inr (.inl ⟨off, x, he, ha, rfl⟩))
      · cases h
    | hardReset =>
      cases h
      exact .inr (.inr (.inr ⟨he, rfl⟩))

/-- The sequencer's turn: idle, it waits; running, it takes a pending abort or runs a command. -/
theorem sequencerStep_next {s t : State} (h : s.sequencerStep = .next t) :
    (s.busy = false ∧ t = { s with stopReq := false }) ∨
    (s.busy = true ∧ s.stopReq = true ∧ t = { s with stopReq := false }.takeFault .aborted 0#32) ∨
    (s.busy = true ∧ s.stopReq = false ∧ s.runCommand = .next t) := by
  unfold State.sequencerStep at h
  cases hb : s.busy <;> cases hr : s.stopReq <;> simp_all

/-- A command boundary without an abort: FETCH_RANGE, ILLEGAL_COMMAND, or the decoded command. -/
theorem runCommand_next {s t : State} (h : s.runCommand = .next t) :
    (Config.cmSize ≤ s.pc.toNat ∧ t = s.takeFault .fetchRange (s.pc.setWidth 32)) ∨
    ∃ w, s.pc.toNat < Config.cmSize ∧ s.cm.read? s.pc.toNat = some w ∧
      ((∃ e, decode w = .error e ∧ t = s.takeFault .illegalCommand w) ∨ ∃ i, decode w = .ok i ∧ exec i s = .next t) := by
  unfold State.runCommand at h
  by_cases hp : Config.cmSize ≤ s.pc.toNat
  · have hf : s.fetch = .error (.raise .fetchRange (s.pc.setWidth 32)) := if_pos hp
    rw [hf] at h
    cases h
    exact .inl ⟨hp, rfl⟩
  · refine .inr ?_
    have hf : s.fetch = readWord s.cm .unwrittenCommand s.pc.toNat := if_neg hp
    rw [hf] at h
    cases hw : s.cm.read? s.pc.toNat with
    | none => simp [readWord, hw] at h
    | some w =>
      rw [readWord_ok.mpr hw] at h
      refine ⟨w, by omega, rfl, ?_⟩
      cases hd : decode w with
      | error e =>
        simp only [hd] at h
        cases h
        exact .inl ⟨e, rfl, rfl⟩
      | ok i =>
        simp only [hd] at h
        exact .inr ⟨i, rfl, h⟩

/-- No step is a fault of the model (log 12). -/
theorem step_ne_fault (s : State) (f : Fault) : step s ≠ .fault f := nomatch f

/-- Nothing is listed in a memory right after reset, so its memories are in canonical form. -/
theorem reset_memoriesWf : State.reset.memoriesWf := by decide

end Sys2Proof.Machine
end

