-- ==== Sys2Proof/Tests/Slice0.lean ====
section
/-! SUPPORT. Tests of the model on values the spec gives (95_test_vectors.md and the command rules' worked examples), and a
witness for the hypotheses of every statement. -/

-- The tests are elaborated one after another: each in a thread of its own would exceed the memory limit.
set_option Elab.async false

namespace Sys2Proof.Tests

open Sys2Proof.Machine Sys2Proof.Claims

/-! ## WellFormed: a term each check refuses (30_encoding.md R118) -/

theorem test_illformed_bc : (Instr.bc 5#4 7#16).wellFormed = false := by decide
theorem test_illformed_setv : (Instr.setv 3#2).wellFormed = false := by decide
theorem test_wellformed_bc : (Instr.bc 4#4 0xFFFF#16).wellFormed = true := by decide
theorem test_wellformed_setv : (Instr.setv 2#2).wellFormed = true := by decide
theorem test_wellformed_forney : (Instr.forney 7#3 7#3 7#3 7#3).wellFormed = true := by decide

/-! ## Decoding: each command's word, its bits written out from the pattern column of the opcode map (30_encoding.md R117),
d = 5, a = 3, b = 6, c = 1, k = 4 and an immediate with both its end bits in use -/

theorem test_decode_halt : decode 0b000001_00000000000000000000000000#32 = .ok .halt := by decide +kernel
theorem test_decode_nop : decode 0b000010_00000000000000000000000000#32 = .ok .nop := by decide +kernel
theorem test_decode_bc : decode 0b000011_0100_000000_1000000000000110#32 = .ok (.bc 4#4 32774#16) := by decide +kernel
theorem test_decode_dbnz : decode 0b000100_101_0000000_1000000000000110#32 = .ok (.dbnz 5#3 32774#16) := by decide +kernel
theorem test_decode_lib : decode 0b001000_101_000000000000000000_10011#32 = .ok (.lib 5#3 19#5) := by decide +kernel
theorem test_decode_addb : decode 0b001001_101_011_110_00000000000000000#32 = .ok (.addb 5#3 3#3 6#3) := by decide +kernel
theorem test_decode_mulb : decode 0b001010_101_011_110_00000000000000000#32 = .ok (.mulb 5#3 3#3 6#3) := by decide +kernel
theorem test_decode_invb : decode 0b001011_101_011_00000000000000000000#32 = .ok (.invb 5#3 3#3) := by decide +kernel
theorem test_decode_powb : decode 0b001100_101_011_110_00000000000000000#32 = .ok (.powb 5#3 3#3 6#3) := by decide +kernel
theorem test_decode_negb : decode 0b001101_101_011_00000000000000000000#32 = .ok (.negb 5#3 3#3) := by decide +kernel
theorem test_decode_lie : decode 0b010000_101_0000000000000_1011000001#32 = .ok (.lie 5#3 705#10) := by decide +kernel
theorem test_decode_adde : decode 0b010001_101_011_110_00000000000000000#32 = .ok (.adde 5#3 3#3 6#3) := by decide +kernel
theorem test_decode_mule : decode 0b010010_101_011_110_00000000000000000#32 = .ok (.mule 5#3 3#3 6#3) := by decide +kernel
theorem test_decode_inve : decode 0b010011_101_011_00000000000000000000#32 = .ok (.inve 5#3 3#3) := by decide +kernel
theorem test_decode_powe : decode 0b010100_101_011_110_00000000000000000#32 = .ok (.powe 5#3 3#3 6#3) := by decide +kernel
theorem test_decode_nege : decode 0b010101_101_011_00000000000000000000#32 = .ok (.nege 5#3 3#3) := by decide +kernel
theorem test_decode_emb : decode 0b010110_101_011_00000000000000000000#32 = .ok (.emb 5#3 3#3) := by decide +kernel
theorem test_decode_prj : decode 0b010111_101_011_00000000000000000000#32 = .ok (.prj 5#3 3#3) := by decide +kernel
theorem test_decode_lin : decode 0b011000_101_0000000_1000000000000110#32 = .ok (.lin 5#3 32774#16) := by decide +kernel
theorem test_decode_lhn : decode 0b011001_101_0000000_1000000000000110#32 = .ok (.lhn 5#3 32774#16) := by decide +kernel
theorem test_decode_naddi : decode 0b011010_101_011_0000_1000000000000110#32 = .ok (.naddi 5#3 3#3 32774#16) := by decide +kernel
theorem test_decode_lds : decode 0b011100_101_011_0000_1000000000000110#32 = .ok (.lds 5#3 3#3 32774#16) := by decide +kernel
theorem test_decode_sts : decode 0b011101_101_011_0000_1000000000000110#32 = .ok (.sts 5#3 3#3 32774#16) := by decide +kernel
theorem test_decode_ldx : decode 0b011110_101_011_0000_1000000000000110#32 = .ok (.ldx 5#3 3#3 32774#16) := by decide +kernel
theorem test_decode_stx : decode 0b011111_101_011_0000_1000000000000110#32 = .ok (.stx 5#3 3#3 32774#16) := by decide +kernel
theorem test_decode_pemb : decode 0b100000_101_011_00000000000000000000#32 = .ok (.pemb 5#3 3#3) := by decide +kernel
theorem test_decode_pevb : decode 0b100001_101_011_110_00000000000000000#32 = .ok (.pevb 5#3 3#3 6#3) := by decide +kernel
theorem test_decode_peve : decode 0b100010_101_011_110_00000000000000000#32 = .ok (.peve 5#3 3#3 6#3) := by decide +kernel
theorem test_decode_pmul : decode 0b100011_101_011_110_00000000000000000#32 = .ok (.pmul 5#3 3#3 6#3) := by decide +kernel
theorem test_decode_pmulx : decode 0b100100_101_011_110_0_1000000000000110#32 = .ok (.pmulx 5#3 3#3 6#3 32774#16) := by decide +kernel
theorem test_decode_prem : decode 0b100101_101_011_110_00000000000000000#32 = .ok (.prem 5#3 3#3 6#3) := by decide +kernel
theorem test_decode_pder : decode 0b100110_101_011_00000000000000000000#32 = .ok (.pder 5#3 3#3) := by decide +kernel
theorem test_decode_setv : decode 0b101000_000000000000000000000000_10#32 = .ok (.setv 2#2) := by decide +kernel
theorem test_decode_lrst : decode 0b101001_00000000000000000000000000#32 = .ok .lrst := by decide +kernel
theorem test_decode_lfb : decode 0b101010_000_011_00000000000000000000#32 = .ok (.lfb 3#3) := by decide +kernel
theorem test_decode_lfm : decode 0b101011_000_011_00000000000000000000#32 = .ok (.lfm 3#3) := by decide +kernel
theorem test_decode_lchk : decode 0b101100_101_00000000000000000000000#32 = .ok (.lchk 5#3) := by decide +kernel
theorem test_decode_lver : decode 0b101101_00000000000000000000000000#32 = .ok .lver := by decide +kernel
theorem test_decode_lres : decode 0b101110_101_00000000000000000000000#32 = .ok (.lres 5#3) := by decide +kernel
theorem test_decode_synd : decode 0b110000_101_00000000000000000000000#32 = .ok (.synd 5#3) := by decide +kernel
theorem test_decode_loc : decode 0b110001_101_011_00000000000000000000#32 = .ok (.loc 5#3 3#3) := by decide +kernel
theorem test_decode_roots : decode 0b110010_101_011_110_00000000000000000#32 = .ok (.roots 5#3 3#3 6#3) := by decide +kernel
theorem test_decode_forney : decode 0b110011_101_011_110_001_00000000000000#32 = .ok (.forney 5#3 3#3 6#3 1#3) := by decide +kernel
theorem test_decode_corr : decode 0b110100_101_011_00000000000000000000#32 = .ok (.corr 5#3 3#3) := by decide +kernel
theorem test_decode_selft : decode 0b110101_00000000000000000000000000#32 = .ok .selft := by decide +kernel

/-! ## The four illegal cases (30_encoding.md R118; words of 95_test_vectors.md, "Decode") -/

theorem test_illegal_opcode : decode 0x00000000#32 = .error .reservedOpcode := by decide +kernel
theorem test_illegal_opcode_all :
    ∀ op ∈ [0x00, 0x05, 0x06, 0x07, 0x0E, 0x0F, 0x1B, 0x27, 0x2F, 0x36, 0x3F],
      decode (BitVec.ofNat 6 op ++ 0#26) = .error .reservedOpcode := by decide +kernel
theorem test_illegal_must_be_zero :
    [0x04000001#32, 0x0C010007#32, 0x10810003#32, 0x21800020#32, 0x2C820000#32, 0x40800400#32, 0x70A10004#32,
      0x91950002#32, 0xA0000004#32, 0xA8B00000#32, 0xB1100000#32, 0xCF272000#32].map decode =
      List.replicate 12 (.error .mustBeZero) := by decide +kernel
theorem test_illegal_condition :
    decode 0x0D400007#32 = .error .reservedCondition ∧ decode 0x0FC00000#32 = .error .reservedCondition := by
  decide +kernel
theorem test_illegal_variant : decode 0xA0000003#32 = .error .reservedVariant := by decide +kernel
theorem test_table_word : decodeTableWord 32 0xCF270000 = some (.forney 6#3 2#3 3#3 4#3) := by decide +kernel
theorem test_table_word_bytes : decodeTableWord 32 0x408003FF = some (.lie 1#3 0x3FF#10) := by decide +kernel

/-! ## One step: the word placed and run, then one or two things looked at -/

/-- What f sees of an answered step. -/
def seen {α : Type} (f : State → α) : Host.Outcome State Fault Refusal → Option α
  | .next t => some (f t)
  | .fault _ => none
  | .refused _ => none

/-- What f sees after the word w ran as the next command of s. -/
def ran {α : Type} (w : Nat) (s : State) (f : State → α) : Option α := seen f (step (s.withFetchWord 32 w))

/-- The code and the info word of the fault that stopped the sequencer. -/
def trap (t : State) : Bool × BitVec 8 × Word := (t.err, t.ecode, t.einfo)

/-- The state right after reset. -/
def r0 : State := State.reset

/-- A stream xs in SM at base, N[k] its descriptor. -/
def stream (k : RegIdx) (base : Nat) (xs : List Sym) (s : State) : State :=
  (s.setSmList base xs).setN k (BitVec.ofNat 16 xs.length ++ BitVec.ofNat 16 base)

/-- A polynomial xs in XM at base, N[k] its descriptor. -/
def poly (k : RegIdx) (base : Nat) (xs : List Ext) (s : State) : State :=
  (s.setXmList base xs).setN k (BitVec.ofNat 16 xs.length ++ BitVec.ofNat 16 base)

/-- The words base .. base + n - 1 of XM. -/
def xmAt (base n : Nat) (t : State) : List (Option Ext) := (List.range n).map fun j => t.xm.read? (base + j)

/-- The words base .. base + n - 1 of SM. -/
def smAt (base n : Nat) (t : State) : List (Option Sym) := (List.range n).map fun j => t.sm.read? (base + j)

/-- "a12uel5l" (95_test_vectors.md, conventions). -/
def good : List Sym := [3, 0, 1, 10, 28, 25, 31, 20, 31]
/-- "a12uql5l", one error at SM[5]. -/
def bad : List Sym := [3, 0, 1, 10, 28, 0, 31, 20, 31]
/-- The generator as XM elements. -/
def gen : List Ext := [18, 29, 21, 20, 22, 29, 1]

theorem test_halt : ran 0x04000000 r0 (fun t => (t.done, t.busy, t.pc)) = some ((true, false, 0)) := by decide +kernel
theorem test_nop : ran 0x08000000 r0 (fun t => (t.pc, t.busy)) = some ((1, true)) := by decide +kernel
theorem test_bc_taken : ran 0x0C400007 (r0.setZ true) (fun t => t.pc) = some 7 := by decide +kernel
theorem test_bc_not_taken : ran 0x0D000007 ({ r0 with v := true }) (fun t => t.pc) = some 1 := by decide +kernel
theorem test_dbnz_wraps : ran 0x10800003 r0 (fun t => (t.getN 1, t.pc)) = some ((0xFFFFFFFF, 3)) := by decide +kernel
theorem test_dbnz_falls :
    ran 0x10800003 (r0.setN 1 1) (fun t => (t.getN 1, t.pc)) = some ((0, 1)) := by
  decide +kernel
theorem test_lib : ran 0x2180001F r0 (fun t => (t.getB 3, t.z)) = some ((31, false)) := by decide +kernel
theorem test_lib_zero : ran 0x20000000 r0 (fun t => (t.getB 0, t.z)) = some ((0, true)) := by decide +kernel
theorem test_addb :
    ran 0x25020000 ((r0.setB 0 7).setB 1 9) (fun t => (t.getB 2, t.z)) = some ((14, false)) := by
  decide +kernel
theorem test_mulb :
    ran 0x29020000 ((r0.setB 0 31).setB 1 31) (fun t => (t.getB 2, t.z)) = some ((29, false)) := by
  decide +kernel
theorem test_mulb_same_register : ran 0x28000000 (r0.setB 0 6) (fun t => t.getB 0) = some 20 := by decide +kernel
theorem test_invb : ran 0x2C800000 (r0.setB 0 31) (fun t => (t.getB 1, t.z)) = some ((15, false)) := by decide +kernel
theorem test_invb_zero : ran 0x2C800000 (r0.setB 1 9) trap = some ((true, 5, 0)) := by decide +kernel
theorem test_powb_large :
    ran 0x30800000 ((r0.setB 0 3).setN 0 0xFFFFFFFF) (fun t => t.getB 1) = some 15 := by
  decide +kernel
theorem test_powb_zero_to_zero : ran 0x30800000 r0 (fun t => (t.getB 1, t.z)) = some ((1, false)) := by decide +kernel
theorem test_negb : ran 0x34800000 (r0.setB 0 19) (fun t => (t.getB 1, t.z)) = some ((19, false)) := by decide +kernel
theorem test_lie : ran 0x400003FF r0 (fun t => (t.getE 0, t.z)) = some ((0x3FF, false)) := by decide +kernel
theorem test_adde :
    ran 0x45020000 ((r0.setE 0 0x30C).setE 1 0x36E) (fun t => t.getE 2) = some 0x062 := by
  decide +kernel
theorem test_mule :
    ran 0x49020000 ((r0.setE 0 0x3FF).setE 1 0x3FF) (fun t => t.getE 2) = some 0x3A0 := by
  decide +kernel
theorem test_mule_zeta :
    ran 0x49020000 ((r0.setE 0 0x020).setE 1 0x020) (fun t => t.getE 2) = some 0x021 := by
  decide +kernel
theorem test_inve :
    ran 0x4C800000 (r0.setE 0 0x3FF) (fun t => (t.getE 1, t.z)) = some ((0x1E0, false)) := by
  decide +kernel
theorem test_inve_zero : ran 0x4C800000 r0 trap = some ((true, 5, 0)) := by decide +kernel
theorem test_powe_inverse :
    ran 0x50800000 ((r0.setE 0 0x0C1).setN 0 1022) (fun t => t.getE 1) = some 0x13E := by
  decide +kernel
theorem test_powe_frobenius :
    ran 0x50800000 ((r0.setE 0 0x0C1).setN 0 32) (fun t => t.getE 1) = some 0x0C7 := by
  decide +kernel
theorem test_nege : ran 0x54800000 (r0.setE 0 0x2A5) (fun t => t.getE 1) = some 0x2A5 := by decide +kernel
theorem test_emb :
    ran 0x58800000 (r0.setB 0 25) (fun t => (t.getE 1, t.z)) = some ((0x019, false)) := by
  decide +kernel
theorem test_prj :
    ran 0x5C800000 (r0.setE 0 0x019) (fun t => (t.getB 1, t.z)) = some ((25, false)) := by
  decide +kernel
theorem test_prj_outside : ran 0x5C800000 (r0.setE 0 0x0C1) trap = some ((true, 6, 0xC1)) := by decide +kernel
theorem test_lin :
    ran 0x60801234 (r0.setN 1 0x00090000) (fun t => (t.getN 1, t.z)) = some ((0x1234, false)) := by
  decide +kernel
theorem test_lhn : ran 0x64800009 (r0.setN 1 0x00001234) (fun t => t.getN 1) = some 0x00091234 := by decide +kernel
theorem test_lhn_zero :
    ran 0x64800000 (r0.setN 1 0x00090000) (fun t => (t.getN 1, t.z)) = some ((0, true)) := by
  decide +kernel
theorem test_naddi_negative :
    ran 0x6910FFFF (r0.setN 1 0x00091234) (fun t => t.getN 2) = some 0x00091233 := by
  decide +kernel
theorem test_naddi_carry :
    ran 0x69107FFF (r0.setN 1 0x0000FFFF) (fun t => t.getN 2) = some 0x00017FFE := by
  decide +kernel
theorem test_lds :
    ran 0x70A00004 ((r0.setN 2 0x00090000).setSm 4 28) (fun t => (t.getB 1, t.z)) = some ((28, false)) := by
  decide +kernel
theorem test_lds_no_wrap : ran 0x70A00001 (r0.setN 2 0x0000FFFF) trap = some ((true, 3, 0x10000)) := by decide +kernel
theorem test_sts : ran 0x74A00004 (r0.setB 1 25) (fun t => t.sm.read? 4) = some (some 25) := by decide +kernel
theorem test_sts_range :
    ran 0x74A00000 ((r0.setB 1 25).setN 2 0x400) trap = some ((true, 3, 0x400)) := by
  decide +kernel
theorem test_ldx :
    ran 0x79A00001 ((r0.setN 2 0x00030010).setXm 17 0x1FC) (fun t => t.getE 3) = some 0x1FC := by
  decide +kernel
theorem test_ldx_range : ran 0x79A0FFFF (r0.setN 2 0xFFFF) trap = some ((true, 4, 0x1FFFE)) := by decide +kernel
theorem test_stx :
    ran 0x7DA00001 ((r0.setN 2 0x10).setE 3 0x30C) (fun t => t.xm.read? 17) = some (some 0x30C) := by
  decide +kernel
theorem test_stx_range :
    ran 0x7DA00000 ((r0.setN 2 0x40).setE 3 0x30C) trap = some ((true, 4, 0x40)) := by
  decide +kernel
theorem test_pemb :
    ran 0x80A00000 ((stream 2 0 [3, 0, 1] r0).setN 1 0x10) (fun t => (t.getN 1, xmAt 16 3 t)) = some ((0x00030010, [some 3, some 0, some 1])) := by
  decide +kernel
theorem test_pemb_dest_range :
    ran 0x80A00000 ((stream 2 0 [3, 0, 1] r0).setN 1 0x3E) trap = some ((true, 4, 0x40)) := by
  decide +kernel
theorem test_pevb :
    ran 0x84220000 ((stream 2 0 [0, 1, 2, 3, 4] r0).setE 1 0x0C1) (fun t => t.getE 0) = some 0x335 := by
  decide +kernel
theorem test_pevb_empty :
    ran 0x84220000 (r0.setE 1 0x0C1) (fun t => (t.getE 0, t.z)) = some ((0, true)) := by
  decide +kernel
theorem test_peve_root :
    ran 0x88140000 ((poly 1 0 gen r0).setE 2 0x30C) (fun t => (t.getE 0, t.z)) = some ((0, true)) := by
  decide +kernel
theorem test_peve_no_root :
    ran 0x88140000 ((poly 1 0 gen r0).setE 2 0x390) (fun t => t.getE 0) = some 0x1B3 := by
  decide +kernel
theorem test_pmul :
    ran 0x8D940000 ((poly 2 8 [1, 1] (poly 1 0 [1, 0x0C1] r0)).setN 3 0x10) (fun t => (t.getN 3, xmAt 16 3 t)) = some ((0x00030010, [some 1, some 0x0C0, some 0x0C1])) := by
  decide +kernel
theorem test_pmul_overlap :
    ran 0x8C920000 (poly 1 0 [1, 1] r0) (fun t => (t.getN 1, xmAt 0 3 t)) = some ((0x00030000, [some 1, some 0, some 1])) := by
  decide +kernel
theorem test_pmulx :
    ran 0x91940002 ((poly 2 8 [5, 1] (poly 1 0 [1, 0x0C1, 7] r0)).setN 3 0x10) (fun t => (t.getN 3, xmAt 16 2 t)) = some ((0x00020010, [some 5, some 0x3C4])) := by
  decide +kernel
theorem test_pmulx_none :
    ran 0x91940000 ((poly 2 8 [5, 1] (poly 1 0 [1, 0x0C1, 7] r0)).setN 3 0x00050010) (fun t => (t.getN 3, t.z)) = some ((0x10, true)) := by
  decide +kernel
theorem test_prem :
    ran 0x95940000 ((poly 2 8 gen (poly 1 0 [0, 0, 0, 0, 0, 0, 0, 1] r0)).setN 3 0x10) (fun t => (t.getN 3, xmAt 16 6 t)) = some ((0x00060010, [some 6, some 11, some 26, some 15, some 29, some 15])) := by
  decide +kernel
theorem test_prem_zero_divisor :
    ran 0x95940000 ((poly 2 8 [0, 0] (poly 1 0 [1, 2, 3] r0)).setN 3 0x10) trap = some ((true, 5, 0)) := by
  decide +kernel
theorem test_pder :
    ran 0x99900000 ((poly 1 0 [5, 6, 7, 8, 9] r0).setN 3 0x10) (fun t => (t.getN 3, xmAt 16 4 t)) = some ((0x00040010, [some 6, some 0, some 8, some 0])) := by
  decide +kernel
theorem test_pder_constant :
    ran 0x99900000 ((poly 1 0 [5] r0).setN 3 0x00050010) (fun t => (t.getN 3, t.z)) = some ((0x10, true)) := by
  decide +kernel
theorem test_setv : ran 0xA0000002 r0 (fun t => (t.var, t.mid)) = some ((.bech32m, 1)) := by decide +kernel
theorem test_setv_none :
    ran 0xA0000000 (r0.setMid 0x00008C01) (fun t => (t.var, t.mid)) = some ((.noChecksum, 0x00008C01)) := by
  decide +kernel
theorem test_lrst :
    ran 0xA4000000 ((r0.setMid 0x12345678).setCnt 7) (fun t => (t.mid, t.cnt)) = some ((1, 0)) := by
  decide +kernel
theorem test_lrst_none :
    ran 0xA4000000 (((r0.setVar .noChecksum).setMid 5).setCnt 7) (fun t => (t.mid, t.cnt)) = some ((0, 0)) := by
  decide +kernel
theorem test_lfb :
    ran 0xA8300000 (((r0.setMid 0x3FFFFFFF).setCnt 4).setB 3 31) (fun t => (t.mid, t.cnt)) = some ((0x2B326EB4, 5)) := by
  decide +kernel
theorem test_lfb_saturates :
    ran 0xA8300000 (r0.setCnt 0xFFFFFFFF) (fun t => (t.mid, t.cnt)) = some ((0x20, 0xFFFFFFFF)) := by
  decide +kernel
theorem test_lfm :
    ran 0xAC100000 (stream 1 0 [3, 0, 1] r0) (fun t => (t.mid, t.cnt)) = some ((0x00008C01, 3)) := by
  decide +kernel
theorem test_lfm_none_counts :
    ran 0xAC100000 (stream 1 0 good (r0.setVar .noChecksum)) (fun t => (t.mid, t.cnt)) = some ((1, 9)) := by
  decide +kernel
theorem test_lchk :
    ran 0xB1000000 (((r0.setMid 0x00008C01).setCnt 3).setN 2 3) (fun t => (smAt 3 6 t, t.mid)) = some (([some 10, some 28, some 25, some 31, some 20, some 31], 1)) := by
  decide +kernel
theorem test_lchk_degenerate :
    ran 0xB1000000 (((r0.setMid 0x00008C01).setCnt 1018).setN 2 3) (fun t => (t.rc, t.v)) = some ((.degenerateInput, false)) := by
  decide +kernel
theorem test_lver : ran 0xB4000000 (r0.setCnt 1023) (fun t => (t.rc, t.v)) = some ((.ok, true)) := by decide +kernel
theorem test_lver_other_variant :
    ran 0xB4000000 ((r0.setVar .bech32m).setCnt 9) (fun t => (t.rc, t.v)) = some ((.invalidChecksum, false)) := by
  decide +kernel
theorem test_lres :
    ran 0xBA000000 (r0.setVar .bech32m) (fun t => (t.getN 4, t.z)) = some ((0x2BC830A2, false)) := by
  decide +kernel
theorem test_selft :
    ran 0xD4000000 ({ r0 with rc := .invalidChecksum }) (fun t => (t.rc, t.v)) = some ((.ok, true)) := by
  decide +kernel
theorem test_synd :
    ran 0xC1000000 ((r0.setMid 0x000C8001).setN 2 0x10) (fun t => xmAt 16 3 t) = some ([some 0x36F, some 0x1FC, some 0x027]) := by
  decide +kernel
theorem test_synd_none :
    ran 0xC1000000 ((r0.setVar .noChecksum).setN 2 0x00050010) (fun t => (t.getN 2, t.z)) = some ((0x10, true)) := by
  decide +kernel
theorem test_loc :
    ran 0xC5A00000 ((poly 2 16 [0x36F, 0x1FC, 0x027] r0).setN 3 0x18) (fun t => (t.getN 3, xmAt 24 2 t)) = some ((0x00020018, [some 1, some 0x256])) := by
  decide +kernel
theorem test_loc_two_errors :
    ran 0xC5A00000 ((poly 2 16 [0x34E, 0x1DF, 0x082] r0).setN 3 0x18) (fun t => xmAt 24 3 t) = some ([some 1, some 0x375, some 0x349]) := by
  decide +kernel
theorem test_roots :
    ran 0xCA3A0000 (((poly 3 24 [1, 0x256] r0).setN 5 9).setN 4 0x20) (fun t => (t.getN 4, xmAt 32 1 t)) = some ((0x00010020, [some 3])) := by
  decide +kernel
theorem test_roots_argument :
    ran 0xCA3A0000 ((r0.setN 5 1024).setN 3 0x00010040) trap = some ((true, 8, 0x400)) := by
  decide +kernel
theorem test_forney :
    ran 0xCF270000 ((poly 4 32 [3] (poly 3 24 [1, 0x256] (poly 2 16 [0x36F, 0x1FC, 0x027] r0))).setN 6 0x28) (fun t => (t.getN 6, xmAt 40 1 t)) = some ((0x00010028, [some 0x019])) := by
  decide +kernel
theorem test_forney_argument_first :
    ran 0xCF270000 ((poly 4 32 [3, 1023] (poly 3 24 [1, 0, 1] (poly 2 16 [0x36F, 0x1FC, 0x027] r0))).setN 6 0x28) trap = some ((true, 8, 0x3FF)) := by
  decide +kernel
theorem test_corr :
    ran 0xD3900000 (stream 1 0 bad r0) (fun t => (t.getN 7, t.sm.read? 5)) = some ((0x00016403, some 25)) := by
  decide +kernel
theorem test_corr_two_errors :
    ran 0xD3900000 (stream 1 0 [3, 0, 1, 10, 29, 25, 30, 20, 31] r0) (fun t => (t.getN 7, t.rc)) = some ((0, .uncorrectable)) := by
  decide +kernel

/-! ## Sequencer, host and reset (95_test_vectors.md, "Faults, abort and the IRQ", "Host window", "Soft reset") -/

theorem test_fetch_range : seen trap (step { r0.start 300 with cm := [] }) = some (true, 2, 0x12C) := by decide +kernel
theorem test_illegal_word : ran 0x00000000 r0 trap = some (true, 1, 0) := by decide +kernel
theorem test_abort_beats_fetch_range :
    seen (fun t => (trap t, t.epc)) (step { r0.start 256 with stopReq := true }) = some ((true, 9, 0), 256) := by
  decide +kernel
theorem test_stop_while_idle :
    seen (fun t => (t.stopReq, t.ecode)) (step { r0 with host := [.write 0x0004 4 2] }) = some (false, 0) := by
  decide +kernel
theorem test_irq_needs_ie : (State.irq { r0 with ie := true, err := true } = true) ∧
    (State.irq { r0 with err := true } = false) := by decide +kernel
theorem test_read_id : seen (fun t => t.hostData) (step { r0 with host := [.read 0x0000 4] }) = some 0x42470001 := by
  decide +kernel
theorem test_read_status :
    seen (fun t => t.hostData) (step { r0 with
      done := true
      v := true
      rc := .uncorrectable
      host := [.read 0x0008 4] }) = some 0x00000222 := by decide +kernel
theorem test_write_var_reserved :
    seen (fun t => t.var) (step { r0 with host := [.write 0x0020 4 3] }) = some .bech32 := by decide +kernel
theorem test_write_var_truncates :
    seen (fun t => t.var) (step { r0 with host := [.write 0x0020 4 6] }) = some .bech32m := by decide +kernel
theorem test_write_b_truncates :
    seen (fun t => t.getB 2) (step { r0 with host := [.write 0x0048 4 0xFF] }) = some 31 := by decide +kernel
theorem test_write_sm :
    seen (fun t => t.sm.read? 5) (step { r0 with host := [.write 0x4014 4 0x19] }) = some (some 25) := by decide +kernel
theorem test_busy_write_drops :
    seen (fun t => (t.getN 1, t.werr)) (step { r0.start 0 with host := [.write 0x0084 4 5] }) = some (0, true) := by
  decide +kernel
theorem test_busy_reserved_write :
    seen (fun t => (t.werr, t.draws)) (step { r0.start 0 with host := [.write 0x0030 4 5] }) = some (true, 0) := by
  decide +kernel
theorem test_busy_reserved_read :
    seen (fun t => (t.hostData, t.draws)) (step { r0.start 0 with
      hostData := 7
      host := [.read 0x0030 4] }) = some (0, 0) := by decide +kernel
theorem test_soft_reset_wins :
    seen (fun t => (t.busy, t.stopReq, t.ecode)) (step { r0.start 5 with host := [.write 0x0004 4 6] }) =
      some (false, false, 0) := by decide +kernel
theorem test_hard_reset :
    seen (fun t => (t.busy, t.sm, t.pc)) (step { (r0.start 5).setSm 3 9 with host := [.hardReset] }) =
      some (false, [], 0) := by decide +kernel
theorem test_unwritten_word_refused :
    step ((r0.setN 2 1023).withFetchWord 32 0x70A00000) = .refused (.unwrittenSymbol 1023) := by rfl
theorem test_window_offset : windowOffset 0x40000000 0x40000FFC = some 0x0FFC#16 ∧ windowOffset 0x40000000 0x40010000 = none := by
  decide +kernel

/-! ## Witnesses: a state and operands that meet the hypotheses of each statement, clause by clause -/

theorem seen_some {α : Type} {f : State → α} {o : Host.Outcome State Fault Refusal} {x : α} (h : seen f o = some x) :
    ∃ t, o = .next t ∧ f t = x := by
  cases o with
  | next t => exact ⟨t, rfl, by simpa [seen] using h⟩
  | fault f => cases f
  | refused r => simp [seen] at h

theorem smHolds_of {s : State} {k : RegIdx} {xs : List Sym} (h : s.checkSm k = .ok ()) (hr : s.smRegion k = .ok xs) :
    SmHolds s k xs := ⟨State.checkSm_ok.mp h, State.smRegion_length hr, (readWords_ok.mp hr).2⟩

theorem xmHolds_of {s : State} {k : RegIdx} {xs : List Ext} (h : s.checkXm k = .ok ()) (hr : s.xmRegion k = .ok xs) :
    XmHolds s k xs := ⟨State.checkXm_ok.mp h, State.xmRegion_length hr, (readWords_ok.mp hr).2⟩

theorem witness_EncodeThenDecodeGivesTheCommand : (Instr.bc 4#4 0xFFFF#16).wellFormed = true := by decide

theorem witness_DecodedWordIsTheEncoding : decode 0xA0000002#32 = .ok (.setv 2#2) := by decide +kernel

/-- A unit about to fetch w at the last word of CM. -/
def fetchLast (w : Word) : State := { r0.start 255 with cm := [(255, w)] }

theorem witness_IllegalExactlyByTheFourCases_reserved :
    Fetching (fetchLast 0) (fetchLast 0) ∧ Fetching { fetchLast 0 with host := [.wait] } (fetchLast 0) ∧
    (fetchLast 0).pc.toNat < Config.cmSize ∧
    (fetchLast 0).cm.read? (fetchLast 0).pc.toNat = some 0 ∧ IllegalWord 0 :=
  ⟨⟨rfl, rfl, .inl ⟨rfl, rfl⟩⟩, ⟨rfl, rfl, .inr ⟨[], rfl, rfl⟩⟩, by decide, rfl, .inl (by simp [opcodeRows])⟩

theorem witness_IllegalExactlyByTheFourCases_must_be_zero : IllegalWord 0x04000001#32 :=
  .inr (.inl ⟨(0x01, 0xFFFFFFFF, 0x04000000), by simp [opcodeRows], by decide, by decide⟩)

theorem witness_IllegalExactlyByTheFourCases_condition : IllegalWord 0x0D400007#32 :=
  .inr (.inr (.inl (by decide)))

theorem witness_IllegalExactlyByTheFourCases_variant : IllegalWord 0xA0000003#32 := .inr (.inr (.inr (by decide)))

/-- A unit whose next fetch reads NOP. -/
def running : State := r0.withFetchWord 32 0x08000000

theorem witness_StepKeepsInvariant : running.Inv ∧ step running = .next running.advance := by
  refine ⟨by decide +kernel, rfl⟩

theorem witness_ResetState : { running with host := [.hardReset] }.host = .hardReset :: [] := rfl

theorem witness_StepRunsTheDecodedCommand :
    Fetching running running ∧ running.pc.toNat < Config.cmSize ∧
    running.cm.read? running.pc.toNat = some 0x08000000#32 ∧ decode 0x08000000#32 = .ok .nop :=
  ⟨⟨rfl, rfl, .inl ⟨rfl, rfl⟩⟩, by decide +kernel⟩

theorem witness_StepRunsTheDecodedCommand_last :
    Fetching { fetchLast 0x04000000 with host := [.wait] } (fetchLast 0x04000000) ∧
    (fetchLast 0x04000000).pc.toNat < Config.cmSize ∧
    (fetchLast 0x04000000).cm.read? (fetchLast 0x04000000).pc.toNat = some 0x04000000#32 ∧
    decode 0x04000000#32 = .ok .halt :=
  ⟨⟨rfl, rfl, .inr ⟨[], rfl, rfl⟩⟩, by decide +kernel⟩

theorem witness_IdleUnitWaits :
    r0.busy = false ∧ r0.stopReq = false ∧ Turn r0 r0 ∧ Turn { r0 with host := [.wait] } r0 :=
  ⟨rfl, rfl, .inl ⟨rfl, rfl⟩, .inr ⟨[], rfl, rfl⟩⟩

theorem witness_StopAbortsAtTheNextBoundary_write :
    HostWrites { running with host := [.write 0x0004 4 3] } 0x0004#16 3#32 [] ∧ (3#32).getLsbD 1 = true ∧
    (3#32).getLsbD 2 = false := ⟨rfl, by decide, by decide⟩

theorem witness_StopAbortsAtTheNextBoundary_enable :
    HostWrites { running with host := [.write 0x0004 4 1] } 0x0004#16 1#32 [] ∧ (1#32).getLsbD 1 = false ∧
    (1#32).getLsbD 2 = false := ⟨rfl, by decide, by decide⟩

theorem witness_StopAbortsAtTheNextBoundary_boundary :
    { running with stopReq := true }.busy = true ∧ { running with stopReq := true }.stopReq = true ∧
    Turn { running with stopReq := true } { running with stopReq := true } ∧
    Turn { running with stopReq := true, host := [.wait] } { running with stopReq := true } :=
  ⟨rfl, rfl, .inl ⟨rfl, rfl⟩, .inr ⟨[], rfl, rfl⟩⟩

theorem witness_FetchBeyondCommandMemoryFaults :
    Fetching (r0.start 256) (r0.start 256) ∧ Fetching { r0.start 256 with host := [.wait] } (r0.start 256) ∧
    Config.cmSize ≤ (r0.start 256).pc.toNat ∧ Config.cmSize ≤ (256#16).toNat :=
  ⟨⟨rfl, rfl, .inl ⟨rfl, rfl⟩⟩, ⟨rfl, rfl, .inr ⟨[], rfl, rfl⟩⟩, by decide, by decide⟩

theorem witness_BranchTakesItsCondition : 5 ≤ (5#4).toNat := by decide

theorem witness_LoadCommands_last :
    ((r0.setN 2 1022).setSm 1023 7).ea 2 1 < Config.smSize ∧
    ((r0.setN 2 1022).setSm 1023 7).sm.read? (((r0.setN 2 1022).setSm 1023 7).ea 2 1) = some 7 ∧
    ((r0.setN 2 62).setXm 63 7).ea 2 1 < Config.xmSize ∧
    ((r0.setN 2 62).setXm 63 7).xm.read? (((r0.setN 2 62).setXm 63 7).ea 2 1) = some 7 := by decide +kernel

theorem witness_LoadCommands_range :
    Config.smSize ≤ (r0.setN 2 1023).ea 2 1 ∧ Config.xmSize ≤ (r0.setN 2 63).ea 2 1 := by decide +kernel

theorem witness_LoadCommands_unwritten :
    (r0.setN 2 1023).ea 2 0 < Config.smSize ∧ (r0.setN 2 1023).sm.read? ((r0.setN 2 1023).ea 2 0) = none ∧
    (r0.setN 2 63).ea 2 0 < Config.xmSize ∧ (r0.setN 2 63).xm.read? ((r0.setN 2 63).ea 2 0) = none := by decide +kernel

theorem witness_StoreCommands :
    (r0.setN 2 1022).ea 2 1 < Config.smSize ∧ (r0.setN 2 62).ea 2 1 < Config.xmSize ∧
    Config.smSize ≤ (r0.setN 2 1023).ea 2 1 ∧ Config.xmSize ≤ (r0.setN 2 63).ea 2 1 := by decide +kernel

theorem witness_InvbInvertsOrFaults : (r0.setB 3 31).getB 3 ≠ 0#5 ∧ r0.getB 3 = 0#5 := by decide +kernel

theorem witness_Gf32FieldLaws : (1#5 : Sym) ≠ 0#5 := by decide

theorem witness_Gf32PowerLaws : (31#5 : Sym) ≠ 0#5 := by decide

theorem witness_InveInvertsOrFaults : (r0.setE 3 0x3FF).getE 3 ≠ 0#10 ∧ r0.getE 3 = 0#10 := by decide +kernel

theorem witness_PrjProjectsOrFaults :
    ((r0.setE 3 0x01F).getE 3).extractLsb' 5 5 = 0#5 ∧ ((r0.setE 3 0x020).getE 3).extractLsb' 5 5 ≠ 0#5 := by
  decide +kernel

theorem witness_Gf1024FieldLaws : (0x020#10 : Ext) ≠ 0#10 := by decide

theorem witness_BetaHasFullPeriod :
    (0x3FF#10 : Ext) ≠ 0#10 ∧ 1022 < 1023 ∧ betaPow 1022 = betaPow 1022 ∧ betaPow 1023 = 1#10 := by decide +kernel

/-- SM[0..2] = [3, 0, 1], its descriptor N2; N1 the base of the last three words of XM. -/
def pembState (base : Word) : State := (stream 2 0 [3, 0, 1] r0).setN 1 base

theorem witness_EmbedAndDerivativeCommands_pemb : SmHolds (pembState 61) 2 [3, 0, 1] ∧ DestFits (pembState 61) 1 3 :=
  ⟨smHolds_of (by decide +kernel) (by decide +kernel), .inr (by decide +kernel)⟩

/-- XM[0..4] = [5, 6, 7, 8, 9], its descriptor N1; N3 the base of the destination. -/
def pderState (base : Word) : State := (poly 1 0 [5, 6, 7, 8, 9] r0).setN 3 base

theorem witness_EmbedAndDerivativeCommands_pder :
    XmHolds (pderState 60) 1 [5, 6, 7, 8, 9] ∧ [6#10, 0#10, 8#10, 0#10].length = [5#10, 6, 7, 8, 9].length - 1 ∧
    (∀ k (h : k < [6#10, 0#10, 8#10, 0#10].length), [6#10, 0#10, 8#10, 0#10][k] =
      if (k + 1) % 2 = 1 then coeff [5, 6, 7, 8, 9] (k + 1) else 0#10) ∧
    DestFits (pderState 60) 3 [6#10, 0#10, 8#10, 0#10].length :=
  ⟨xmHolds_of (by decide +kernel) (by decide +kernel), rfl, by decide +kernel, .inr (by decide +kernel)⟩

theorem witness_EvaluationCommands : SmHolds (stream 2 1015 good r0) 2 good ∧ XmHolds (poly 1 57 gen r0) 1 gen :=
  ⟨smHolds_of (by decide +kernel) (by decide +kernel), xmHolds_of (by decide +kernel) (by decide +kernel)⟩

/-- XM[0..1] = [1, β], XM[8..9] = [1, 1], their descriptors N1 and N2; N3 the base of the destination. -/
def pmulState (base : Word) : State := (poly 2 8 [1, 1] (poly 1 0 [1, 0x0C1] r0)).setN 3 base

theorem witness_ProductCommands :
    XmHolds (pmulState 61) 1 [1, 0x0C1] ∧ XmHolds (pmulState 61) 2 [1, 1] ∧
    DestFits (pmulState 61) 3 (pmul [1, 0x0C1] [1, 1]).length ∧
    DestFits (pmulState 62) 3 (min (2#16).toNat (pmul [1, 0x0C1] [1, 1]).length) :=
  ⟨xmHolds_of (by decide +kernel) (by decide +kernel), xmHolds_of (by decide +kernel) (by decide +kernel),
    .inr (by decide +kernel), .inr (by decide +kernel)⟩

theorem witness_ProductCommands_empty :
    XmHolds (r0.setN 1 0xFFFF) 1 [] ∧ DestFits (r0.setN 3 0xFFFF) 3 (pmul [] [1]).length :=
  ⟨xmHolds_of (by decide +kernel) (by decide +kernel), .inl (by decide +kernel)⟩

theorem coeff_beyond (p : List Ext) {k : Nat} (h : p.length ≤ k) : coeff p k = 0#10 := by
  simp [coeff, List.getD_eq_getElem?_getD, h]

theorem witness_RemainderCommand :
    XmHolds (pmulState 63) 1 [1, 0x0C1] ∧ XmHolds (pmulState 63) 2 [1, 1] ∧ 1 < [1#10, 1#10].length ∧
    coeff [1, 1] 1 ≠ 0#10 ∧ (∀ k, 1 < k → coeff [1, 1] k = 0#10) ∧ DestFits (pmulState 63) 3 1 :=
  ⟨xmHolds_of (by decide +kernel) (by decide +kernel), xmHolds_of (by decide +kernel) (by decide +kernel), by decide,
    by decide, fun _ h => coeff_beyond _ h, .inr (by decide +kernel)⟩

theorem witness_RemainderCommand_zero_divisor :
    XmHolds (poly 2 8 [0, 0] (poly 1 0 [1] r0)) 1 [1] ∧ XmHolds (poly 2 8 [0, 0] (poly 1 0 [1] r0)) 2 [0, 0] ∧
    AllZero [0, 0] :=
  ⟨xmHolds_of (by decide +kernel) (by decide +kernel), xmHolds_of (by decide +kernel) (by decide +kernel),
    by simp [AllZero]⟩

theorem witness_RemainderIsARemainder :
    0 < [7#10, 0#10].length ∧ coeff [7, 0] 0 ≠ 0#10 ∧ (∀ k, 0 < k → coeff [7, 0] k = 0#10) := by
  refine ⟨by decide, by decide, fun k h => ?_⟩
  rcases Nat.lt_or_ge k 2 with h2 | h2
  · obtain rfl : k = 1 := by omega
    decide
  · exact coeff_beyond _ h2

theorem witness_PolynomialRangeFaults :
    (¬Fits Config.smSize (descBase ((r0.setN 2 0x000203FF).getN 2)) (descLen ((r0.setN 2 0x000203FF).getN 2))) ∧
    (¬Fits Config.xmSize (descBase ((r0.setN 2 0x00010040).getN 2)) (descLen ((r0.setN 2 0x00010040).getN 2))) := by
  unfold Fits
  decide +kernel

theorem witness_PolynomialRangeFaults_dest :
    XmHolds (pmulState 62) 1 [1, 0x0C1] ∧ XmHolds (pmulState 62) 2 [1, 1] ∧
    ¬DestFits (pmulState 62) 3 (pmul [1, 0x0C1] [1, 1]).length := by
  refine ⟨xmHolds_of (by decide +kernel) (by decide +kernel), xmHolds_of (by decide +kernel) (by decide +kernel), ?_⟩
  unfold DestFits Fits
  decide +kernel

theorem witness_EvaluationIsAHomomorphism : [1#10, 2#10].length = [3#10, 4#10].length := rfl

theorem witness_SelectAndStartPass : (2#2 : BitVec 2) ≠ 3#2 := by decide

theorem witness_FeedCommands :
    SmHolds (stream 1 1015 good r0) 1 good ∧
    ¬Fits Config.smSize (descBase ((r0.setN 1 0x000203FF).getN 1)) (descLen ((r0.setN 1 0x000203FF).getN 1)) := by
  refine ⟨smHolds_of (by decide +kernel) (by decide +kernel), ?_⟩
  unfold Fits
  decide +kernel

theorem witness_ChecksumCommand_no_checksum : (r0.setVar .noChecksum).var = .noChecksum := rfl

theorem witness_ChecksumCommand_range :
    (r0.setN 2 1019).var ≠ .noChecksum ∧ Config.smSize < descBase ((r0.setN 2 1019).getN 2) + 6 := by decide +kernel

theorem witness_ChecksumCommand_degenerate :
    ((r0.setN 2 1018).setCnt 1018).var ≠ .noChecksum ∧
    descBase (((r0.setN 2 1018).setCnt 1018).getN 2) + 6 ≤ Config.smSize ∧
    1017 < ((r0.setN 2 1018).setCnt 1018).cnt.toNat := by decide +kernel

theorem witness_ChecksumCommand_ok :
    target ((r0.setN 2 1018).setCnt 1017).var = some 1#30 ∧
    descBase (((r0.setN 2 1018).setCnt 1017).getN 2) + 6 ≤ Config.smSize ∧
    ((r0.setN 2 1018).setCnt 1017).cnt.toNat ≤ 1017 := by decide +kernel

theorem witness_VerdictCommands :
    (r0.setVar .noChecksum).var = .noChecksum ∧ target (r0.setVar .bech32m).var = some 0x2BC830A3#30 := by decide

theorem witness_LfsrStepIsReductionByG : 5 < 6 := by decide

theorem witness_ChecksumDrivesMidstateToTarget :
    ∃ t, exec (.lchk 2) ((r0.setN 2 1018).setCnt 1017) = .next t ∧
      (((r0.setN 2 1018).setCnt 1017).err, t.err, t.rc) = (false, false, .ok) :=
  seen_some (f := fun t => (((r0.setN 2 1018).setCnt 1017).err, t.err, t.rc)) (by decide +kernel)

theorem witness_SyndromeCommand :
    (r0.setVar .noChecksum).var = .noChecksum ∧ target (r0.setN 2 61).var = some 1#30 ∧ DestFits (r0.setN 2 61) 2 3 ∧
    (r0.setN 2 62).var ≠ .noChecksum ∧ ¬DestFits (r0.setN 2 62) 2 3 := by
  unfold DestFits Fits
  decide +kernel

/-- XM[16..18] = the syndromes of "a12uql5l", their descriptor N2; N3 the base of the destination. -/
def locState (base : Word) : State := (poly 2 16 [0x36F, 0x1FC, 0x027] r0).setN 3 base

theorem witness_LocatorCommand :
    XmHolds (locState 62) 2 [0x36F, 0x1FC, 0x027] ∧
    DestFits (locState 62) 3 ((bm [0x36F, 0x1FC, 0x027]).2 + 1) := by
  refine ⟨xmHolds_of (by decide +kernel) (by decide +kernel), ?_⟩
  unfold DestFits Fits
  decide +kernel

theorem witness_LocatorCommand_progression : (1#10 : Ext) ≠ 0#10 := by decide

theorem witness_LocatorCommand_range :
    XmHolds (locState 63) 2 [0x36F, 0x1FC, 0x027] ∧
    ¬DestFits (locState 63) 3 ((bm [0x36F, 0x1FC, 0x027]).2 + 1) := by
  refine ⟨xmHolds_of (by decide +kernel) (by decide +kernel), ?_⟩
  unfold DestFits Fits
  decide +kernel

theorem witness_LocatorGeneratesTheSyndromes :
    (bm [0x36F, 0x1FC, 0x027]).2 ≤ 1 ∧ 1 < [0x36F#10, 0x1FC#10, 0x027#10].length := by decide +kernel

theorem witness_RootsCommand_faults :
    (r0.setVar .noChecksum).var = .noChecksum ∧ (r0.setN 5 1024).var ≠ .noChecksum ∧
    1023 < ((r0.setN 5 1024).getN 5).toNat := by decide +kernel

/-- XM[24..25] = 1 + β³x, its descriptor N3; N5 = 9 candidates; N4 the base of the destination. -/
def rootsState (base : Word) : State := ((poly 3 24 [1, 0x256] r0).setN 5 9).setN 4 base

theorem roots_of_locator : ∀ i, i ∈ [3] ↔
    i < ((rootsState 63).getN 5).toNat ∧ peval [1, 0x256] (betaPow ((1023 - i) % 1023)) = 0#10 := by
  have h9 : ((rootsState 63).getN 5).toNat = 9 := by decide +kernel
  have hr : ∀ i < 9, (i ∈ [3] ↔ peval [1, 0x256] (betaPow ((1023 - i) % 1023)) = 0#10) := by decide +kernel
  intro i
  rw [h9]
  constructor
  · intro h
    have hi : i < 9 := by simp at h; omega
    exact ⟨hi, (hr i hi).mp h⟩
  · rintro ⟨hi, h⟩
    exact (hr i hi).mpr h

theorem witness_RootsCommand :
    (rootsState 63).var ≠ .noChecksum ∧ ((rootsState 63).getN 5).toNat ≤ 1023 ∧ XmHolds (rootsState 63) 3 [1, 0x256] ∧
    [3].Pairwise (fun i j : Nat => i < j) ∧
    (∀ i, i ∈ [3] ↔ i < ((rootsState 63).getN 5).toNat ∧ peval [1, 0x256] (betaPow ((1023 - i) % 1023)) = 0#10) ∧
    DestFits (rootsState 63) 4 [3].length :=
  ⟨by decide, by decide +kernel, xmHolds_of (by decide +kernel) (by decide +kernel), by simp, roots_of_locator,
    .inr (by decide +kernel)⟩

/-- S in XM[16..18] with N2, C in XM[24..] with N3, P in XM[32..] with N4; N6 the base of the destination. -/
def forneyState (c p : List Ext) (base : Word) : State :=
  (poly 4 32 p (poly 3 24 c (poly 2 16 [0x36F, 0x1FC, 0x027] r0))).setN 6 base

theorem witness_ForneyCommand_ok :
    (forneyState [1, 0x256] [3] 63).var ≠ .noChecksum ∧
    XmHolds (forneyState [1, 0x256] [3] 63) 2 [0x36F, 0x1FC, 0x027] ∧
    XmHolds (forneyState [1, 0x256] [3] 63) 3 [1, 0x256] ∧ XmHolds (forneyState [1, 0x256] [3] 63) 4 [3] ∧
    (∀ p ∈ [3#10], p.toNat < 1023 ∧ forneyDen [1, 0x256] p.toNat ≠ 0#10) ∧
    DestFits (forneyState [1, 0x256] [3] 63) 6 [3#10].length :=
  ⟨by decide, xmHolds_of (by decide +kernel) (by decide +kernel), xmHolds_of (by decide +kernel) (by decide +kernel),
    xmHolds_of (by decide +kernel) (by decide +kernel),
    fun p hp => by rw [List.mem_singleton.mp hp]; decide +kernel, .inr (by decide +kernel)⟩

theorem witness_ForneyCommand_argument :
    (forneyState [1, 0x256] [1022, 1023] 63).var ≠ .noChecksum ∧
    XmHolds (forneyState [1, 0x256] [1022, 1023] 63) 2 [0x36F, 0x1FC, 0x027] ∧
    XmHolds (forneyState [1, 0x256] [1022, 1023] 63) 3 [1, 0x256] ∧
    XmHolds (forneyState [1, 0x256] [1022, 1023] 63) 4 [1022, 1023] ∧ [1022#10, 1023#10] = [1022#10] ++ 1023#10 :: [] ∧
    (∀ q ∈ [1022#10], q.toNat < 1023) ∧ 1023 ≤ (1023#10).toNat :=
  ⟨by decide, xmHolds_of (by decide +kernel) (by decide +kernel),
    xmHolds_of (by decide +kernel) (by decide +kernel), xmHolds_of (by decide +kernel) (by decide +kernel),
    rfl, by simp, by decide⟩

theorem witness_ForneyCommand_denominator :
    (forneyState [1, 0, 1] [3] 63).var ≠ .noChecksum ∧
    XmHolds (forneyState [1, 0, 1] [3] 63) 2 [0x36F, 0x1FC, 0x027] ∧
    XmHolds (forneyState [1, 0, 1] [3] 63) 3 [1, 0, 1] ∧ XmHolds (forneyState [1, 0, 1] [3] 63) 4 [3] ∧ [3#10] = [] ++ 3#10 :: [] ∧ (∀ q ∈ [3#10], q.toNat < 1023) ∧
    (∀ q ∈ ([] : List Ext), forneyDen [1, 0, 1] q.toNat ≠ 0#10) ∧ forneyDen [1, 0, 1] (3#10).toNat = 0#10 :=
  ⟨by decide, xmHolds_of (by decide +kernel) (by decide +kernel),
    xmHolds_of (by decide +kernel) (by decide +kernel), xmHolds_of (by decide +kernel) (by decide +kernel),
    rfl, by simp, by simp, by decide +kernel⟩

/-- A locator of degree 3: its derivative is not constant. -/
theorem witness_ForneyCommand_value :
    1022 < 1023 ∧ [5#10, 0, 7].length = [1#10, 5, 6, 7].length - 1 ∧
    (∀ k (h : k < [5#10, 0, 7].length), [5#10, 0, 7][k] =
      if (k + 1) % 2 = 1 then coeff [1, 5, 6, 7] (k + 1) else 0#10) ∧
    forneyDen [1, 5, 6, 7] 1022 ≠ 0#10 := by decide +kernel

theorem witness_CorrectCommand_uncorrectable :
    correctResidue ([0#5, 23, 20, 21, 29, 19].foldl lfsrStep 1#30 ^^^ 1#30) 6 = (.uncorrectable, none) := by
  decide +kernel

theorem witness_CorrectCommand_range :
    ¬Fits Config.smSize (descBase ((r0.setN 1 0x000203FF).getN 1)) (descLen ((r0.setN 1 0x000203FF).getN 1)) := by
  unfold Fits
  decide +kernel

theorem witness_CorrectCommand_no_checksum :
    SmHolds ((stream 1 1015 good r0).setVar .noChecksum) 1 good ∧
    ((stream 1 1015 good r0).setVar .noChecksum).var = .noChecksum :=
  ⟨smHolds_of (by decide +kernel) (by decide +kernel), rfl⟩

theorem witness_CorrectCommand_short :
    SmHolds (stream 1 0 [3, 0, 1, 10, 28] r0) 1 [3, 0, 1, 10, 28] ∧ (stream 1 0 [3, 0, 1, 10, 28] r0).var ≠ .noChecksum ∧
    [3#5, 0, 1, 10, 28].length < 6 :=
  ⟨smHolds_of (by decide +kernel) (by decide +kernel), by decide, by decide⟩

/-- A memory of n words of 0. -/
theorem read_zeros {w : Nat} (n a : Nat) (h : a < n) :
    Memory.read? (Memory.writeList ([] : Memory w) 0 (List.replicate n 0#w)) a = some 0#w := by
  have := Memory.read?_writeList_inside ([] : Memory w) 0 a (List.replicate n 0#w) (by simpa using h)
  simpa using this

/-- 1024 symbols, all of SM. -/
def full : State := stream 1 0 (List.replicate 1024 0#5) r0

theorem full_n : full.getN 1 = 0x04000000#32 := by
  simp only [full, stream, State.getN_setN_same, List.length_replicate]
  decide

theorem full_sm : full.sm = Memory.writeList [] 0 (List.replicate 1024 0#5) := by
  simp only [full, stream, State.setN_sm, State.setSmList_sm, r0, State.reset]

theorem witness_CorrectCommand_long :
    SmHolds full 1 (List.replicate 1024 0#5) ∧ full.var ≠ .noChecksum ∧ 1023 < (List.replicate 1024 0#5).length := by
  have hb : descBase (full.getN 1) = 0 := by rw [full_n]; decide
  have hl : descLen (full.getN 1) = 1024 := by rw [full_n]; decide
  refine ⟨⟨.inr ?_, ?_, fun j h => ?_⟩, by decide, by rw [List.length_replicate]; decide⟩
  · rw [hb, hl]
  · rw [hl, List.length_replicate]
  · rw [hb, full_sm]
    exact Memory.read?_writeList_inside [] 0 j _ h

/-- The checksum of the empty sequence, the shortest valid Bech32 stream (95_test_vectors.md, LCHK). -/
def shortest : List Sym := [29, 22, 20, 21, 29, 19]

theorem witness_CorrectCommand_valid :
    SmHolds (stream 1 1018 shortest r0) 1 shortest ∧ target (stream 1 1018 shortest r0).var = some 1#30 ∧
    6 ≤ shortest.length ∧ shortest.length ≤ 1023 ∧
    correctResidue (shortest.foldl lfsrStep 1#30 ^^^ 1#30) shortest.length = (.ok, none) :=
  ⟨smHolds_of (by decide +kernel) (by decide +kernel), rfl, by decide, by decide, by decide +kernel⟩

/-- The shortest valid stream with an error in its first symbol. -/
def shortestBad : List Sym := [0, 22, 20, 21, 29, 19]

theorem witness_CorrectCommand_fix :
    SmHolds (stream 1 1018 shortestBad r0) 1 shortestBad ∧ target (stream 1 1018 shortestBad r0).var = some 1#30 ∧
    6 ≤ shortestBad.length ∧ shortestBad.length ≤ 1023 ∧
    correctResidue (shortestBad.foldl lfsrStep 1#30 ^^^ 1#30) shortestBad.length = (.ok, some (5, 29)) :=
  ⟨smHolds_of (by decide +kernel) (by decide +kernel), rfl, by decide, by decide, by decide +kernel⟩

theorem witness_CorrectedStreamIsValid :
    SmHolds (stream 1 1018 shortestBad r0) 1 shortestBad ∧ (stream 1 1018 shortestBad r0).var ≠ .noChecksum ∧
    ∃ t, exec (.corr 7 1) (stream 1 1018 shortestBad r0) = .next t ∧ t.rc = .ok :=
  ⟨smHolds_of (by decide +kernel) (by decide +kernel), by decide,
    seen_some (f := fun t => t.rc) (by decide +kernel)⟩

theorem witness_SingleErrorIsCorrected :
    target .bech32 = some 1#30 ∧ 6 ≤ shortest.length ∧ shortest.length ≤ 1023 ∧
    shortest.foldl lfsrStep (initMidstate .bech32) = 1#30 ∧ 5 < shortest.length ∧ (31#5 : Sym) ≠ 0#5 := by decide +kernel

theorem witness_LaterRegionRangeFaults_second_source :
    Fits Config.xmSize (descBase ((r0.setN 2 0x00010040).getN 1)) (descLen ((r0.setN 2 0x00010040).getN 1)) ∧
    (¬Fits Config.xmSize (descBase ((r0.setN 2 0x00010040).getN 2)) (descLen ((r0.setN 2 0x00010040).getN 2))) ∧
    (r0.setN 2 0x00010040).var ≠ .noChecksum ∧ ((r0.setN 2 0x00010040).getN 5).toNat ≤ 1023 := by
  unfold Fits
  decide +kernel

theorem witness_LaterRegionRangeFaults_third_source :
    (r0.setN 4 0x00020040).var ≠ .noChecksum ∧
    Fits Config.xmSize (descBase ((r0.setN 4 0x00020040).getN 2)) (descLen ((r0.setN 4 0x00020040).getN 2)) ∧
    Fits Config.xmSize (descBase ((r0.setN 4 0x00020040).getN 3)) (descLen ((r0.setN 4 0x00020040).getN 3)) ∧
    ¬Fits Config.xmSize (descBase ((r0.setN 4 0x00020040).getN 4)) (descLen ((r0.setN 4 0x00020040).getN 4)) := by
  unfold Fits
  decide +kernel

theorem witness_LaterRegionRangeFaults_pemb : SmHolds (pembState 62) 2 [3, 0, 1] ∧ ¬DestFits (pembState 62) 1 3 := by
  refine ⟨smHolds_of (by decide +kernel) (by decide +kernel), ?_⟩
  unfold DestFits Fits
  decide +kernel

theorem witness_LaterRegionRangeFaults_pder :
    XmHolds (pderState 61) 1 [5, 6, 7, 8, 9] ∧ ¬DestFits (pderState 61) 3 ([5#10, 6, 7, 8, 9].length - 1) := by
  refine ⟨xmHolds_of (by decide +kernel) (by decide +kernel), ?_⟩
  unfold DestFits Fits
  decide +kernel

theorem witness_LaterRegionRangeFaults_pmulx :
    XmHolds (pmulState 63) 1 [1, 0x0C1] ∧ XmHolds (pmulState 63) 2 [1, 1] ∧
    ¬DestFits (pmulState 63) 3 (min (2#16).toNat (pmul [1, 0x0C1] [1, 1]).length) := by
  refine ⟨xmHolds_of (by decide +kernel) (by decide +kernel), xmHolds_of (by decide +kernel) (by decide +kernel), ?_⟩
  unfold DestFits Fits
  decide +kernel

theorem witness_LaterRegionRangeFaults_prem :
    XmHolds (pmulState 64) 1 [1, 0x0C1] ∧ XmHolds (pmulState 64) 2 [1, 1] ∧ 1 < [1#10, 1#10].length ∧
    coeff [1, 1] 1 ≠ 0#10 ∧ (∀ k, 1 < k → coeff [1, 1] k = 0#10) ∧ ¬DestFits (pmulState 64) 3 1 := by
  refine ⟨xmHolds_of (by decide +kernel) (by decide +kernel), xmHolds_of (by decide +kernel) (by decide +kernel),
    by decide, by decide, fun _ h => coeff_beyond _ h, ?_⟩
  unfold DestFits Fits
  decide +kernel

theorem witness_LaterRegionRangeFaults_roots :
    (rootsState 64).var ≠ .noChecksum ∧ ((rootsState 64).getN 5).toNat ≤ 1023 ∧ XmHolds (rootsState 64) 3 [1, 0x256] ∧
    [3].Pairwise (fun i j : Nat => i < j) ∧
    (∀ i, i ∈ [3] ↔ i < ((rootsState 64).getN 5).toNat ∧ peval [1, 0x256] (betaPow ((1023 - i) % 1023)) = 0#10) ∧
    ¬DestFits (rootsState 64) 4 [3].length := by
  have hn : (rootsState 64).getN 5 = (rootsState 63).getN 5 := by decide +kernel
  refine ⟨by decide, by decide +kernel, xmHolds_of (by decide +kernel) (by decide +kernel), by simp, ?_, ?_⟩
  · rw [hn]
    exact roots_of_locator
  · unfold DestFits Fits
    decide +kernel

theorem witness_LaterRegionRangeFaults_forney :
    (forneyState [1, 0x256] [3] 64).var ≠ .noChecksum ∧
    XmHolds (forneyState [1, 0x256] [3] 64) 2 [0x36F, 0x1FC, 0x027] ∧
    XmHolds (forneyState [1, 0x256] [3] 64) 3 [1, 0x256] ∧ XmHolds (forneyState [1, 0x256] [3] 64) 4 [3] ∧
    (∀ p ∈ [3#10], p.toNat < 1023 ∧ forneyDen [1, 0x256] p.toNat ≠ 0#10) ∧ ¬DestFits (forneyState [1, 0x256] [3] 64) 6 [3#10].length := by
  refine ⟨by decide, xmHolds_of (by decide +kernel) (by decide +kernel),
    xmHolds_of (by decide +kernel) (by decide +kernel), xmHolds_of (by decide +kernel) (by decide +kernel),
    fun p hp => by rw [List.mem_singleton.mp hp]; decide +kernel, ?_⟩
  unfold DestFits Fits
  decide +kernel

theorem witness_OnlyEngineCommandsWriteResult :
    exec .nop running = .next running.advance ∧ (∀ rd, Instr.nop ≠ .lchk rd) ∧ Instr.nop ≠ .lver ∧
    (∀ rd ra, Instr.nop ≠ .corr rd ra) ∧ Instr.nop ≠ .selft := ⟨rfl, nofun, nofun, nofun, nofun⟩

theorem witness_RunningUnitKeepsCommandMemory :
    running.busy = true ∧ (∀ rest, running.host ≠ .hardReset :: rest) ∧ step running = .next running.advance :=
  ⟨rfl, nofun, rfl⟩

theorem witness_FaultsArePrecise_stops :
    (r0.start 0).busy = true ∧ exec (.invb 1 0) (r0.start 0) = .next ((r0.start 0).takeFault .divZero 0#32) ∧
    ((r0.start 0).takeFault .divZero 0#32).busy = false := ⟨rfl, rfl, rfl⟩

theorem witness_FaultsArePrecise_runs :
    running.busy = true ∧ exec .nop running = .next running.advance ∧ running.advance.busy = true := ⟨rfl, rfl, rfl⟩

theorem witness_EveryCommandRunsOnWrittenMemory :
    (∀ a < Config.smSize, ∃ x, full.sm.read? a = some x) ∧
    (∀ a < Config.xmSize, ∃ x, ({ full with xm := Memory.writeList [] 0 (List.replicate 64 0#10) }).xm.read? a = some x) := by
  exact ⟨fun a h => ⟨0#5, full_sm ▸ read_zeros 1024 a h⟩, fun a h => ⟨0#10, read_zeros 64 a h⟩⟩

theorem witness_StartWriteStartsTheRun :
    HostWrites { r0 with host := [.write 0x000C 4 0x100FF] } 0x000C#16 0x100FF#32 [] ∧
    { r0 with host := [.write 0x000C 4 0x100FF] }.busy = false ∧
    HostWrites { running with host := [.write 0x000C 4 3] } 0x000C#16 3#32 [] ∧
    { running with host := [.write 0x000C 4 3] }.busy = true ∧
    { r0 with host := [.read 0x000C 4] }.host = .read 0x000C#16 4 :: [] := ⟨rfl, rfl, rfl, rfl, rfl⟩

theorem witness_BusyUnitDropsHostWrites :
    running.busy = true ∧ (0x4FFC#16).toNat % 4 = 0 ∧
    HostWrites { running with host := [.write 0x4FFC 4 3] } 0x4FFC#16 3#32 [] ∧ 0x4FFC#16 ≠ 0x0004#16 ∧
    { running with host := [.read 0x4FFC 4] }.host = .read 0x4FFC#16 4 :: [] ∧
    { running with host := [.read 0x0000 4] }.host = .read 0x0000#16 4 :: [] ∧
    { running with host := [.read 0x0004 4] }.host = .read 0x0004#16 4 :: [] :=
  ⟨rfl, by decide, rfl, by decide, rfl, rfl, rfl⟩

theorem witness_BusyUnitDropsHostWrites_reserved :
    HostWrites { running with host := [.write 0x0030 4 3] } 0x0030#16 3#32 [] ∧ (0x0030#16).toNat % 4 = 0 ∧
    { running with host := [.read 0x0030 4] }.host = .read 0x0030#16 4 :: [] ∧ ¬ListedOffset (0x0030#16).toNat :=
  ⟨rfl, by decide, rfl, by unfold ListedOffset; decide⟩

theorem witness_StatusRegister :
    { r0 with host := [.read 0x0008 4] }.host = .read 0x0008#16 4 :: [] ∧
    HostWrites { r0 with host := [.write 0x0008 4 0xE] } 0x0008#16 0xE#32 [] ∧
    { r0 with host := [.write 0x0008 4 0xE] }.busy = false ∧
    HostWrites { running with host := [.write 0x0008 4 0xE] } 0x0008#16 0xE#32 [] := ⟨rfl, rfl, rfl, rfl⟩

theorem witness_SoftReset :
    HostWrites { running with host := [.write 0x0004 4 7] } 0x0004#16 7#32 [] ∧ (7#32).getLsbD 2 = true :=
  ⟨rfl, by decide⟩

theorem witness_WindowMap :
    windowTarget 0x13FC#16 = .cm 255 ∧ windowTarget 0x1400#16 = .reserved ∧ windowTarget 0x20FC#16 = .xm 63 ∧
    windowTarget 0x2100#16 = .reserved ∧ windowTarget 0x4FFC#16 = .sm 1023 ∧ windowTarget 0x5000#16 = .reserved := by
  decide +kernel

theorem witness_HostWriteThenRead :
    { r0 with host := [.write 0x4FFC 4 0xFF, .read 0x4FFC 4] }.host =
      .write 0x4FFC#16 4 0xFF#32 :: .read 0x4FFC#16 4 :: [] ∧
    (0x4FFC#16).toNat % 4 = 0 ∧ windowTarget 0x4FFC#16 = .sm 1023 := ⟨rfl, by decide, by decide +kernel⟩

theorem witness_WindowMap_read :
    { r0 with host := [.read 0x13FC 4] }.host = .read 0x13FC#16 4 :: [] ∧
    { r0 with host := [.read 0x13FC 4] }.busy = false ∧ (0x13FC#16).toNat % 4 = 0 ∧
    (0x13FC#16).toNat = 0x1000 + 4 * 255 ∧ (0x20FC#16).toNat = 0x2000 + 4 * 63 ∧
    (0x4FFC#16).toNat = 0x4000 + 4 * 1023 ∧ (0x009C#16).toNat = 0x0080 + 4 * (7#3).toNat ∧
    r0.cm.read? 255 = none ∧ (r0.setCm 255 9).cm.read? 255 = some 9 := by decide +kernel

theorem witness_WindowMap_reserved :
    ¬ListedOffset (0x0030#16).toNat ∧ ¬ListedOffset (0x00A0#16).toNat ∧ ¬ListedOffset (0x1400#16).toNat ∧
    ¬ListedOffset (0x2100#16).toNat ∧ ¬ListedOffset (0xFFFC#16).toNat := by
  unfold ListedOffset
  decide

theorem witness_HostWriteThenRead_var :
    HostWrites { r0 with host := [.write 0x0020 4 3, .read 0x0020 4] } 0x0020#16 3#32 [.read 0x0020 4] ∧
    (3#32).extractLsb' 0 2 = 3#2 ∧ (6#32).extractLsb' 0 2 ≠ 3#2 := ⟨rfl, by decide, by decide⟩

theorem witness_HostWriteThenRead_frame :
    HostWrites { r0 with host := [.write 0x0030 4 3] } 0x0030#16 3#32 [] ∧
    { r0 with host := [.write 0x0030 4 3] }.busy = false ∧ (0x0030#16).toNat % 4 = 0 ∧ 0x0030#16 ≠ 0x0004#16 ∧
    0x0030#16 ≠ 0x0008#16 ∧ 0x0030#16 ≠ 0x000C#16 := ⟨rfl, rfl, by decide, by decide, by decide, by decide⟩

theorem witness_HostWriteThenRead_targets :
    windowTarget 0x0024#16 = .mid ∧ windowTarget 0x0028#16 = .cnt ∧ windowTarget 0x002C#16 = .flags ∧
    windowTarget 0x005C#16 = .b 7 ∧ windowTarget 0x007C#16 = .e 7 ∧ windowTarget 0x009C#16 = .n 7 ∧
    windowTarget 0x13FC#16 = .cm 255 ∧ windowTarget 0x20FC#16 = .xm 63 := by decide +kernel

end Sys2Proof.Tests
end

/-! The fields as algebra. gf32Mul is additive in both factors, so its laws are checked on the basis 1, z, ..., z^4;
those of gf1024Mul follow by coordinates. -/

section
namespace Sys2Proof.Machine

/-- Every word is an XOR of one-bit words; so a property that XOR keeps holds once it holds of them. -/
theorem bitVec_xor_induction {w : Nat} {P : BitVec w → Prop} (zero : P 0#w)
    (basis : ∀ i < w, P (BitVec.twoPow w i)) (xor : ∀ x y, P x → P y → P (x ^^^ y)) (x : BitVec w) : P x := by
  suffices bits_below : ∀ n ≤ w, ∀ x : BitVec w, (∀ i, n ≤ i → x.getLsbD i = false) → P x from
    bits_below w le_rfl x fun i hi => BitVec.getLsbD_of_ge x i hi
  intro n
  induction n with
  | zero =>
    intro _ x hx
    have hzero : x = 0#w := BitVec.eq_of_getLsbD_eq fun i _ => by simpa using hx i i.zero_le
    exact hzero ▸ zero
  | succ n ih =>
    intro hn x hx
    cases hbit : x.getLsbD n with
    | false =>
      refine ih (by omega) x fun i hi => ?_
      obtain rfl | hlt := hi.eq_or_lt
      · exact hbit
      · exact hx i hlt
    | true =>
      have hrest : P (x ^^^ BitVec.twoPow w n) := by
        refine ih (by omega) _ fun i hi => ?_
        obtain rfl | hlt := hi.eq_or_lt
        · simp [hbit, Nat.lt_of_succ_le hn]
        · simp [hx i hlt, hlt.ne]
      simpa [BitVec.xor_assoc] using xor _ _ hrest (basis n hn)

/-! GF(32), 40_gf32.md R152. -/

theorem clmulSteps_xor_left (a c : BitVec 9) (b : Sym) (is : List Nat) (r t : BitVec 9) :
    clmulSteps (a ^^^ c) b is (r ^^^ t) = clmulSteps a b is r ^^^ clmulSteps c b is t := by
  induction is generalizing r t with
  | nil => rfl
  | cons i is ih =>
    simp only [clmulSteps, ← ih]
    congr 1
    split
    · rw [BitVec.shiftLeft_xor_distrib]; ac_rfl
    · rfl

/-- One step of either loop of R152 is additive: m is added where the sum of the two deciding bits is 1. -/
theorem ite_xor_xor (p q : Bool) (r t m : BitVec 9) :
    (if p ^^ q then r ^^^ t ^^^ m else r ^^^ t) = (if p then r ^^^ m else r) ^^^ (if q then t ^^^ m else t) := by
  have hright : r ^^^ t ^^^ m = r ^^^ m ^^^ t := by ac_rfl
  have hcancel : r ^^^ m ^^^ (t ^^^ m) = r ^^^ t ^^^ (m ^^^ m) := by ac_rfl
  cases p with
  | false => cases q <;> simp [BitVec.xor_assoc]
  | true =>
    cases q with
    | false => simpa using hright
    | true => simp [hcancel]

theorem clmulSteps_xor_right (a : BitVec 9) (b c : Sym) (is : List Nat) (r t : BitVec 9) :
    clmulSteps a (b ^^^ c) is (r ^^^ t) = clmulSteps a b is r ^^^ clmulSteps a c is t := by
  induction is generalizing r t with
  | nil => rfl
  | cons i is ih => simp only [clmulSteps, ← ih, BitVec.getLsbD_xor, ite_xor_xor]

theorem reduceSteps_xor (is : List Nat) (r t : BitVec 9) :
    reduceSteps is (r ^^^ t) = reduceSteps is r ^^^ reduceSteps is t := by
  induction is generalizing r t with
  | nil => rfl
  | cons i is ih => simp only [reduceSteps, ← ih, BitVec.getLsbD_xor, ite_xor_xor]

theorem gf32Mul_xor_left (a c b : Sym) : gf32Mul (a ^^^ c) b = gf32Mul a b ^^^ gf32Mul c b := by
  have hsteps := clmulSteps_xor_left (a.setWidth 9) (c.setWidth 9) b [0, 1, 2, 3, 4] 0#9 0#9
  rw [BitVec.xor_self] at hsteps
  simp only [gf32Mul, BitVec.setWidth_xor, hsteps, reduceSteps_xor]

theorem gf32Mul_xor_right (a b c : Sym) : gf32Mul a (b ^^^ c) = gf32Mul a b ^^^ gf32Mul a c := by
  have hsteps := clmulSteps_xor_right (a.setWidth 9) b c [0, 1, 2, 3, 4] 0#9 0#9
  rw [BitVec.xor_self] at hsteps
  simp only [gf32Mul, BitVec.setWidth_xor, hsteps, reduceSteps_xor]

@[simp] theorem gf32Mul_zero (a : Sym) : gf32Mul a 0#5 = 0#5 := by
  simpa using gf32Mul_xor_right a 0#5 0#5

@[simp] theorem zero_gf32Mul (a : Sym) : gf32Mul 0#5 a = 0#5 := by
  simpa using gf32Mul_xor_left 0#5 0#5 a

@[simp] theorem gf32Mul_one (a : Sym) : gf32Mul a 1#5 = a := by
  induction a using bitVec_xor_induction with
  | zero => simp
  | basis i hi => exact (by decide : ∀ i < 5, gf32Mul (BitVec.twoPow 5 i) 1#5 = BitVec.twoPow 5 i) i hi
  | xor x y hx hy => rw [gf32Mul_xor_left, hx, hy]

/-- z^i·z^j = z^j·z^i. -/
theorem gf32Mul_twoPow_comm : ∀ i < 5, ∀ j < 5, gf32Mul (BitVec.twoPow 5 i) (BitVec.twoPow 5 j) =
    gf32Mul (BitVec.twoPow 5 j) (BitVec.twoPow 5 i) := by decide +kernel

/-- (z^i·z^j)·z^k = z^i·(z^j·z^k). -/
theorem gf32Mul_twoPow_assoc : ∀ i < 5, ∀ j < 5, ∀ k < 5,
    gf32Mul (gf32Mul (BitVec.twoPow 5 i) (BitVec.twoPow 5 j)) (BitVec.twoPow 5 k) =
      gf32Mul (BitVec.twoPow 5 i) (gf32Mul (BitVec.twoPow 5 j) (BitVec.twoPow 5 k)) := by decide +kernel

theorem gf32Mul_comm (a b : Sym) : gf32Mul a b = gf32Mul b a := by
  induction a using bitVec_xor_induction with
  | zero => simp
  | xor x y hx hy => rw [gf32Mul_xor_left, gf32Mul_xor_right, hx, hy]
  | basis i hi =>
    induction b using bitVec_xor_induction with
    | zero => simp
    | xor x y hx hy => rw [gf32Mul_xor_left, gf32Mul_xor_right, hx, hy]
    | basis j hj => exact gf32Mul_twoPow_comm i hi j hj

theorem gf32Mul_assoc (a b c : Sym) : gf32Mul (gf32Mul a b) c = gf32Mul a (gf32Mul b c) := by
  induction a using bitVec_xor_induction with
  | zero => simp
  | xor x y hx hy => simp only [gf32Mul_xor_left, hx, hy]
  | basis i hi =>
    induction b using bitVec_xor_induction with
    | zero => simp
    | xor x y hx hy => simp only [gf32Mul_xor_left, gf32Mul_xor_right, hx, hy]
    | basis j hj =>
      induction c using bitVec_xor_induction with
      | zero => simp
      | xor x y hx hy => simp only [gf32Mul_xor_right, hx, hy]
      | basis k hk => exact gf32Mul_twoPow_assoc i hi j hj k hk

/-! GF(1024), 41_gf1024.md R180, R183. -/

@[simp] theorem lowCoord_extOf (c0 c1 : Sym) : lowCoord (extOf c0 c1) = c0 := BitVec.extractLsb'_append_eq_right

@[simp] theorem highCoord_extOf (c0 c1 : Sym) : highCoord (extOf c0 c1) = c1 := BitVec.extractLsb'_append_eq_left

@[simp] theorem extOf_lowCoord_highCoord (x : Ext) : extOf (lowCoord x) (highCoord x) = x :=
  (BitVec.extractLsb'_append_extractLsb'_eq_extractLsb' rfl).trans BitVec.extractLsb'_eq_self

theorem gf1024Mul_assoc (x y z : Ext) : gf1024Mul (gf1024Mul x y) z = gf1024Mul x (gf1024Mul y z) := by
  simp only [gf1024Mul, lowCoord_extOf, highCoord_extOf, gf32Mul_xor_left, gf32Mul_xor_right, gf32Mul_assoc]
  congr 1
  · ac_rfl
  · ac_rfl

@[simp] theorem gf1024Mul_one (x : Ext) : gf1024Mul x 1#10 = x := by
  have hone : (1#10 : Ext) = extOf 1#5 0#5 := rfl
  simp [gf1024Mul, hone]

@[simp] theorem gf1024Mul_zero (x : Ext) : gf1024Mul x 0#10 = 0#10 := by
  have hzero : (0#10 : Ext) = extOf 0#5 0#5 := rfl
  simp [gf1024Mul, hzero]

theorem gf1024Mul_comm (x y : Ext) : gf1024Mul x y = gf1024Mul y x := by
  simp only [gf1024Mul, gf32Mul_comm (lowCoord y), gf32Mul_comm (highCoord y)]
  congr 1
  ac_rfl

/-- Repeated squaring computes the power in any monoid that mul maps into (40_gf32.md R154, 41_gf1024.md R186). -/
theorem map_powLoop {w : Nat} {M : Type} [Monoid M] {mul : BitVec w → BitVec w → BitVec w} {φ : BitVec w → M}
    (hmul : ∀ x y, φ (mul x y) = φ x * φ y) {fuel n : Nat} (hn : n < 2 ^ fuel) (r x : BitVec w) :
    φ (powLoop mul fuel r x n) = φ r * φ x ^ n := by
  induction fuel generalizing n r x with
  | zero =>
    have hzero : n = 0 := by simpa using hn
    simp [powLoop, hzero]
  | succ fuel ih =>
    have hhalf : n / 2 < 2 ^ fuel := by omega
    by_cases hzero : n = 0
    · simp [powLoop, hzero]
    · simp only [powLoop, hzero, if_false, ih hhalf, hmul, ← pow_two, ← pow_mul]
      obtain heven | hodd := Nat.mod_two_eq_zero_or_one n
      · simp [heven, Nat.mul_div_cancel' (Nat.dvd_of_mod_eq_zero heven)]
      · simp only [hodd, if_true, hmul, mul_assoc, ← pow_succ']
        congr 2
        omega

/-! Powers of β, 00_scope.md R23. Multiplication by x is a member of the monoid of functions on Ext, where Mathlib's
orderOf applies. -/

/-- The map y ↦ x·y. -/
def mulBy (x : Ext) : Function.End Ext := gf1024Mul x

theorem mulBy_gf1024Mul (x y : Ext) : mulBy (gf1024Mul x y) = mulBy x * mulBy y :=
  funext (gf1024Mul_assoc x y)

theorem mulBy_apply_one (x : Ext) : mulBy x 1#10 = x := gf1024Mul_one x

theorem mulBy_injective : Function.Injective mulBy := fun x y h => by
  rw [← mulBy_apply_one x, h, mulBy_apply_one]

theorem mulBy_one : mulBy 1#10 = 1 :=
  funext fun y => (gf1024Mul_comm _ y).trans (gf1024Mul_one y)

theorem mulBy_gf1024Pow (x : Ext) (n : Nat) : mulBy (gf1024Pow x n) = mulBy x ^ n := by
  rw [gf1024Pow, map_powLoop mulBy_gf1024Mul Nat.lt_log2_self, mulBy_one, one_mul]

theorem mulBy_betaPow (k : Nat) : mulBy (betaPow k) = mulBy beta ^ k := mulBy_gf1024Pow beta k

theorem betaPow_add (i j : Nat) : betaPow (i + j) = gf1024Mul (betaPow i) (betaPow j) :=
  mulBy_injective (by rw [mulBy_gf1024Mul, mulBy_betaPow, mulBy_betaPow, mulBy_betaPow, pow_add])

theorem mulBy_beta_pow_eq_one_iff (k : Nat) : mulBy beta ^ k = 1 ↔ betaPow k = 1#10 := by
  rw [← mulBy_betaPow, ← mulBy_one, mulBy_injective.eq_iff]

/-- R23: 1023 = 3·11·31, and β^1023 = 1 but none of β^(1023/3), β^(1023/11), β^(1023/31) is. -/
theorem orderOf_mulBy_beta : orderOf (mulBy beta) = 1023 := by
  refine orderOf_eq_of_pow_and_pow_div_prime (by decide) ((mulBy_beta_pow_eq_one_iff _).2 (by decide +kernel)) ?_
  intro p hp hdvd
  rw [ne_eq, mulBy_beta_pow_eq_one_iff]
  have hprimes : p = 3 ∨ p = 11 ∨ p = 31 := by
    have hprod : p ∣ 3 * (11 * 31) := hdvd
    simpa only [hp.dvd_mul, Nat.prime_dvd_prime_iff_eq hp (by norm_num : Nat.Prime 3),
      Nat.prime_dvd_prime_iff_eq hp (by norm_num : Nat.Prime 11),
      Nat.prime_dvd_prime_iff_eq hp (by norm_num : Nat.Prime 31)] using hprod
  obtain rfl | rfl | rfl := hprimes
  · decide +kernel
  · decide +kernel
  · decide +kernel

theorem betaPow_eq_one_iff (k : Nat) : betaPow k = 1#10 ↔ 1023 ∣ k := by
  rw [← mulBy_beta_pow_eq_one_iff, ← orderOf_mulBy_beta, orderOf_dvd_iff_pow_eq_one]

theorem betaPow_injOn : Set.InjOn betaPow (Finset.range 1023) := fun i hi j hj h => by
  have hpow : mulBy beta ^ i = mulBy beta ^ j := by rw [← mulBy_betaPow, h, mulBy_betaPow]
  rw [Finset.coe_range, ← orderOf_mulBy_beta] at hi hj
  exact pow_injOn_Iio_orderOf hi hj hpow

theorem betaPow_ne_zero (k : Nat) : betaPow k ≠ 0#10 := fun h => by
  have hone : betaPow (1022 * k + k) = 1#10 := (betaPow_eq_one_iff _).2 ⟨k, by omega⟩
  rw [betaPow_add, h, gf1024Mul_zero] at hone
  exact absurd hone (by decide)

/-- The 1023 powers are distinct and not 0, and there are only 1023 elements other than 0. -/
theorem betaPow_surjOn : Set.SurjOn betaPow (Finset.range 1023) (Finset.univ.erase (0#10 : Ext) : Finset Ext) := by
  refine Finset.surjOn_of_injOn_of_card_le betaPow (fun k _ => ?_) betaPow_injOn ?_
  · simp [betaPow_ne_zero]
  · have hcard : Fintype.card Ext = 1024 := FinEnum.card_eq_fintypeCard.symm.trans rfl
    simp [Finset.card_erase_of_mem, hcard]

/-- Settles O27, by the order of multiplication by β and counting. -/
theorem betaHasFullPeriod : Obligations.BetaHasFullPeriod := by
  refine ⟨betaPow_eq_one_iff, fun x hx => ?_, fun i j hi hj => ?_⟩
  · obtain ⟨k, hk, rfl⟩ := betaPow_surjOn (by simpa using hx)
    exact ⟨k, by simpa using hk, rfl⟩
  · exact betaPow_injOn (by simpa using hi) (by simpa using hj)

end Sys2Proof.Machine
end

/-! The state and the flags (10_state.md): V, RC and Z by command, reset, an idle turn, START and STATUS. -/

section
namespace Sys2Proof.Machine

open Sys2Proof.Claims

/-! What a command's body gives when it succeeds. -/

/-- P holds of the state a body ends in, if it ends in one. -/
def Yields (P : State → Prop) (r : Except Stop State) : Prop := ∀ t, r = .ok t → P t

section
variable {P : State → Prop} {s t : State} {r r' : Except Stop State}

theorem Yields.ok (h : P t) : Yields P (.ok t) := fun _ e => Except.ok.inj e ▸ h

theorem Yields.error (e : Stop) : Yields P (.error e) := fun _ h => absurd h (by simp)

theorem Yields.bind {α : Type} {x : Except Stop α} {f : α → Except Stop State} (h : ∀ a, Yields P (f a)) :
    Yields P (x >>= f) := fun t e =>
  have ⟨a, _, ha⟩ := bind_eq_ok.1 e
  h a t ha

theorem Yields.ite {c : Prop} [Decidable c] (h : Yields P r) (h' : Yields P r') : Yields P (if c then r else r') := by
  split
  · exact h
  · exact h'

/-- A command that ends in a next state has a property that its body yields and that a fault taken in its place has
(00_scope.md R21). -/
theorem Yields.of_finish (h : s.finish r = .next t) (hbody : Yields P r) (hfault : ∀ c info, P (s.takeFault c info)) :
    P t := by
  obtain hok | ⟨c, info, -, rfl⟩ := State.finish_next.1 h
  · exact hbody t hok
  · exact hfault c info

end

section
variable {s t : State}

/-! The commands that branch on their operands, taken apart. -/

theorem execBc_next {cond : BitVec 4} {dest : BitVec 16} (h : execBc cond dest s = .next t) :
    t = s.takeFault .illegalCommand (encode (.bc cond dest)) ∨ t = s.jump dest ∨ t = s.advance := by
  unfold execBc at h
  split at h
  · cases h
    exact .inl rfl
  · split at h
    · cases h
      exact .inr (.inl rfl)
    · cases h
      exact .inr (.inr rfl)

theorem execDbnz_next {rd : RegIdx} {dest : BitVec 16} (h : execDbnz rd dest s = .next t) :
    t = (s.setN rd (s.getN rd - 1#32)).jump dest ∨ t = (s.setN rd (s.getN rd - 1#32)).advance := by
  unfold execDbnz at h
  dsimp only at h
  split at h
  · cases h
    exact .inl rfl
  · cases h
    exact .inr rfl

theorem execSetv_next {v : BitVec 2} (h : execSetv v s = .next t) :
    (∃ x, variantOfNumber v = some x ∧ t = (s.setVar x).advance) ∨
    variantOfNumber v = none ∧ t = s.takeFault .illegalCommand (encode (.setv v)) := by
  unfold execSetv at h
  split at h
  · cases h
    exact .inl ⟨_, ‹_›, rfl⟩
  · cases h
    exact .inr ⟨‹_›, rfl⟩

@[simp] theorem State.feed_z (xs : List Sym) : (s.feed xs).z = s.z := by
  unfold State.feed; split <;> rfl

@[simp] theorem State.feed_v (xs : List Sym) : (s.feed xs).v = s.v := by
  unfold State.feed; split <;> rfl

@[simp] theorem State.feed_rc (xs : List Sym) : (s.feed xs).rc = s.rc := by
  unfold State.feed; split <;> rfl

/-! V, RC and Z (10_state.md R37, R38, R42). -/

/-- Z is unchanged. -/
def KeepsZ (s t : State) : Prop := t.z = s.z

/-- V and RC are unchanged, or V = (RC = OK). -/
def ResultSound (s t : State) : Prop := KeepsResult s t ∨ (t.v = true ↔ t.rc = .ok)

theorem keepsResult_takeFault (c : FaultCode) (info : Word) : KeepsResult s (s.takeFault c info) := ⟨rfl, rfl⟩

/-- Setting RC is the only way V and RC are written, and it leaves Z. -/
theorem flags_setResult {u : State} (r : ResultCode) (hz : KeepsZ s u) :
    KeepsZ s (u.setResult r).advance ∧ ResultSound s (u.setResult r).advance := ⟨hz, .inr (by simp)⟩

theorem keepsResult_putPoly (k : RegIdx) (xs : List Ext) (z : Bool) : Yields (KeepsResult s) (s.putPoly k xs z) :=
  fun _ h => (State.putPoly_ok.1 h).2 ▸ ⟨rfl, rfl⟩

theorem keepsResult_of_finish {r : Except Stop State} (h : s.finish r = .next t) (hbody : Yields (KeepsResult s) r) :
    KeepsResult s t := hbody.of_finish h keepsResult_takeFault

/-- 70_reset_and_hazards.md R387: every command but LCHK, LVER, CORR and SELFT keeps V and RC. -/
theorem exec_keepsResult {i : Instr} (hlchk : ∀ rd, i ≠ .lchk rd) (hlver : i ≠ .lver) (hcorr : ∀ rd ra, i ≠ .corr rd ra)
    (hselft : i ≠ .selft) (h : exec i s = .next t) : KeepsResult s t := by
  cases i with
  | lchk rd => exact absurd rfl (hlchk rd)
  | lver => exact absurd rfl hlver
  | corr rd ra => exact absurd rfl (hcorr rd ra)
  | selft => exact absurd rfl hselft
  | halt | nop | lib | addb | mulb | powb | negb | lie | adde | mule | powe | nege | emb | lin | lhn | naddi | lrst
  | lres =>
    cases h
    exact ⟨rfl, rfl⟩
  | lfb =>
    cases h
    exact ⟨State.feed_v _, State.feed_rc _⟩
  | bc =>
    obtain rfl | rfl | rfl := execBc_next h
    · exact keepsResult_takeFault _ _
    · exact ⟨rfl, rfl⟩
    · exact ⟨rfl, rfl⟩
  | dbnz => obtain rfl | rfl := execDbnz_next h <;> exact ⟨rfl, rfl⟩
  | setv =>
    obtain ⟨_, _, rfl⟩ | ⟨_, rfl⟩ := execSetv_next h
    · exact ⟨rfl, rfl⟩
    · exact keepsResult_takeFault _ _
  | invb | inve | prj => exact keepsResult_of_finish h (.ite (.error _) (.ok ⟨rfl, rfl⟩))
  | sts | stx => exact keepsResult_of_finish h (.bind fun _ => .ok ⟨rfl, rfl⟩)
  | lds | ldx | pevb | peve => exact keepsResult_of_finish h (.bind fun _ => .bind fun _ => .ok ⟨rfl, rfl⟩)
  | lfm => exact keepsResult_of_finish h (.bind fun _ => .bind fun _ => .ok ⟨State.feed_v _, State.feed_rc _⟩)
  | synd => exact keepsResult_of_finish h (keepsResult_putPoly _ _ _)
  | pemb | pder | loc => exact keepsResult_of_finish h (.bind fun _ => .bind fun _ => keepsResult_putPoly _ _ _)
  | pmul | pmulx =>
    exact keepsResult_of_finish h (.bind fun _ => .bind fun _ => .bind fun _ => .bind fun _ => keepsResult_putPoly _ _ _)
  | prem =>
    refine keepsResult_of_finish h (.bind fun _ => .bind fun _ => .bind fun _ => .bind fun _ => ?_)
    split
    · exact .error _
    · exact keepsResult_putPoly _ _ _
  | roots =>
    exact keepsResult_of_finish h (.bind fun _ => .ite (.error _) (.bind fun _ => .bind fun _ =>
      keepsResult_putPoly _ _ _))
  | forney =>
    exact keepsResult_of_finish h (.bind fun _ => .bind fun _ => .bind fun _ => .bind fun _ => .bind fun _ =>
      .bind fun _ => .bind fun _ => .bind fun _ => .bind fun _ => keepsResult_putPoly _ _ _)

/-- What LCHK leaves of the flags: Z, and V and RC as they were or agreeing (43_lfsr_checksum.md R249). -/
theorem execLchk_flags {rd : RegIdx} (h : execLchk rd s = .next t) : KeepsZ s t ∧ ResultSound s t := by
  unfold execLchk at h
  split at h
  · cases h
    exact flags_setResult .ok rfl
  · refine Yields.of_finish (P := fun u => KeepsZ s u ∧ ResultSound s u) h (.bind fun _ => .ite (.ok ?_) (.ok ?_))
      fun c info => ⟨rfl, .inl (keepsResult_takeFault c info)⟩
    · exact flags_setResult .degenerateInput rfl
    · exact flags_setResult .ok rfl

theorem State.reportFix_v_iff_rc (rd : RegIdx) (r : ResultCode) (fix : Option (Nat × Sym)) :
    (s.reportFix rd r fix).v = true ↔ (s.reportFix rd r fix).rc = .ok := by
  simp [State.reportFix]

theorem execCorr_resultSound {rd ra : RegIdx} (h : execCorr rd ra s = .next t) : ResultSound s t := by
  refine Yields.of_finish (P := ResultSound s) h (.bind fun _ => .bind fun _ => ?_)
    fun c info => .inl (keepsResult_takeFault c info)
  split
  · exact .ok (.inr (State.reportFix_v_iff_rc ..))
  · exact .ite (.ok (.inr (State.reportFix_v_iff_rc ..))) (.ok (.inr (State.reportFix_v_iff_rc ..)))

/-- 10_state.md R38: V and RC are as before the command, or V = (RC = OK). -/
theorem exec_resultSound {i : Instr} (h : exec i s = .next t) : ResultSound s t := by
  cases i with
  | lchk => exact (execLchk_flags h).2
  | corr => exact execCorr_resultSound h
  | lver | selft =>
    cases h
    exact (flags_setResult _ rfl).2
  | _ => exact .inl (exec_keepsResult (by simp) (by simp) (by simp) (by simp) h)

end

/-- Settles O51: V and RC by exec_keepsResult and exec_resultSound, Z by the thirteen commands of R387. -/
theorem onlyEngineCommandsWriteResult : Obligations.OnlyEngineCommandsWriteResult := by
  intro i s t h
  refine ⟨fun hlchk hlver hcorr hselft => exec_keepsResult hlchk hlver hcorr hselft h, fun hz => ?_, exec_resultSound h⟩
  obtain hmem | ⟨_, _, rfl⟩ | ⟨_, _, rfl⟩ | ⟨_, _, _, rfl⟩ | ⟨_, _, _, rfl⟩ | ⟨_, rfl⟩ | ⟨_, rfl⟩ | ⟨_, rfl⟩ | ⟨_, rfl⟩ := hz
  · simp only [List.mem_cons, List.not_mem_nil, or_false] at hmem
    obtain rfl | rfl | rfl | rfl | rfl := hmem <;> cases h <;> rfl
  · obtain rfl | rfl | rfl := execBc_next h <;> rfl
  · obtain rfl | rfl := execDbnz_next h <;> rfl
  · exact Yields.of_finish (P := KeepsZ s) h (.bind fun _ => .ok rfl) fun _ _ => rfl
  · exact Yields.of_finish (P := KeepsZ s) h (.bind fun _ => .ok rfl) fun _ _ => rfl
  · obtain ⟨_, _, rfl⟩ | ⟨_, rfl⟩ := execSetv_next h <;> rfl
  · cases h
    exact State.feed_z _
  · exact Yields.of_finish (P := KeepsZ s) h (.bind fun _ => .bind fun _ => .ok (State.feed_z _)) fun _ _ => rfl
  · exact (execLchk_flags h).1

/-! The next event of the host's list (log 5). -/

section
variable {s u : State} {off : BitVec 16} {tg : WindowTarget} {x : Word} {rest : List HostEvent}

theorem step_of_turn (h : Turn s u) : step s = u.sequencerStep := by
  obtain ⟨hnil, rfl⟩ | ⟨rest, hwait, rfl⟩ := h
  · simp only [step, unitStep, hnil]
  · simp only [step, unitStep, hwait, State.turn]

theorem sequencerStep_of_idle (hbusy : s.busy = false) (hstop : s.stopReq = false) : s.sequencerStep = .next s := by
  have hsame : { s with stopReq := false } = s := by rw [← hstop]
  rw [State.sequencerStep, if_neg (by simp [hbusy]), hsame]

theorem step_of_hardReset (h : s.host = .hardReset :: rest) : step s = .next { s with host := rest }.hardReset := by
  simp only [step, unitStep, h, State.turn]

theorem step_of_hostWrites (h : HostWrites s off x rest) (halign : off.toNat % 4 = 0) (htg : windowTarget off = tg) :
    step s = .next ({ s with host := rest }.hostWrite tg x) := by
  unfold HostWrites at h
  simp [step, unitStep, h, State.turn, accessOk, halign, htg]

theorem step_of_hostWrites_idle (h : HostWrites s off x rest) (halign : off.toNat % 4 = 0)
    (htg : windowTarget off = tg) (hbusy : s.busy = false) :
    step s = .next ({ s with host := rest }.writeIdle tg x) := by
  rw [step_of_hostWrites h halign htg, State.hostWrite, if_neg (by simp [hbusy])]

/-- A running unit drops every write but CTRL's and sets WERR (20_memory.md R77). -/
theorem step_of_hostWrites_busy (h : HostWrites s off x rest) (halign : off.toNat % 4 = 0)
    (htg : windowTarget off = tg) (hctrl : tg ≠ .ctrl) (hbusy : s.busy = true) :
    step s = .next { s with host := rest, werr := true } := by
  rw [step_of_hostWrites h halign htg, State.hostWrite, if_pos hbusy, State.writeBusy_of_ne_ctrl _ _ hctrl]

theorem step_of_read (h : s.host = .read off 4 :: rest) (halign : off.toNat % 4 = 0) (htg : windowTarget off = tg) :
    step s = { s with host := rest }.finish ({ s with host := rest }.hostRead tg) := by
  simp [step, unitStep, h, State.turn, accessOk, halign, htg]

/-- A read gives the value that stands at the offset, if the unit is idle or the read is exact at any time
(20_memory.md R77, R78). -/
theorem step_of_read_exact (h : s.host = .read off 4 :: rest) (halign : off.toNat % 4 = 0) (htg : windowTarget off = tg)
    (hexact : s.busy = false ∨ exactWhileBusy tg = true) (hval : { s with host := rest }.windowValue tg = .ok x) :
    step s = .next { s with host := rest, hostData := x } := by
  have hfree : ¬(s.busy && !exactWhileBusy tg) = true := by
    obtain h | h := hexact <;> simp [h]
  rw [step_of_read h halign htg, State.hostRead, if_neg hfree, hval]
  rfl

/-! Two of the window's offsets (20_memory.md R73). -/

theorem windowTarget_status : windowTarget 0x0008#16 = .status := by decide

theorem windowTarget_start : windowTarget 0x000C#16 = .start := by decide

end

/-- Settles O5: the reset state is idle, so its turn passes; a hard reset gives it by definition. -/
theorem resetState : Obligations.ResetState := by
  refine ⟨rfl, rfl, rfl, rfl, rfl, rfl, rfl, rfl, rfl, rfl, rfl, rfl, rfl, rfl, rfl, rfl, rfl, ?_, ?_, ?_, ?_⟩
  · exact (step_of_turn (.inl ⟨rfl, rfl⟩)).trans (sequencerStep_of_idle rfl rfl)
  · exact fun s rest h => step_of_hardReset h
  · exact fun r => ⟨Vector.getElem_replicate _, Vector.getElem_replicate _, Vector.getElem_replicate _⟩
  · exact fun a => ⟨rfl, rfl, rfl⟩

/-- Settles O9, by the sequencer's idle turn. -/
theorem idleUnitWaits : Obligations.IdleUnitWaits := by
  intro s u hbusy hstop hturn
  have hsame : u.busy = s.busy ∧ u.stopReq = s.stopReq := by
    obtain ⟨-, rfl⟩ | ⟨_, -, rfl⟩ := hturn <;> exact ⟨rfl, rfl⟩
  rw [step_of_turn hturn, sequencerStep_of_idle (hsame.1.trans hbusy) (hsame.2.trans hstop)]

/-- Settles O55: the write is State.start while idle and dropped while busy; START reads 0. -/
theorem startWriteStartsTheRun : Obligations.StartWriteStartsTheRun := by
  refine ⟨fun s x rest h hbusy => ?_, fun s x rest h hbusy => ?_, fun s rest h hbusy => ?_⟩
  · exact step_of_hostWrites_idle h (by decide) windowTarget_start hbusy
  · exact step_of_hostWrites_busy h (by decide) windowTarget_start (by decide) hbusy
  · exact step_of_read_exact h (by decide) windowTarget_start (.inl hbusy) rfl

/-- The fields of STATUS as read (10_state.md R48), bit by bit. -/
theorem statusWord_fields (s : State) :
    s.statusWord.getLsbD 0 = s.busy ∧ s.statusWord.getLsbD 1 = s.done ∧ s.statusWord.getLsbD 2 = s.err ∧
    s.statusWord.getLsbD 3 = s.werr ∧ s.statusWord.getLsbD 4 = s.z ∧ s.statusWord.getLsbD 5 = s.v ∧
    s.statusWord.extractLsb' 6 2 = 0#2 ∧ s.statusWord.extractLsb' 8 4 = resultNumber s.rc ∧
    s.statusWord.extractLsb' 12 20 = 0#20 := by
  simp only [BitVec.eq_of_getLsbD_eq_iff, State.statusWord, BitVec.getLsbD_extractLsb', BitVec.getLsbD_append,
    BitVec.getLsbD_setWidth]
  refine ⟨by simp, by simp, by simp, by simp, by simp, by simp, fun i hi => ?_, fun i hi => ?_, fun i hi => ?_⟩
  · interval_cases i <;> simp
  · interval_cases i <;> simp
  · grind

/-- Settles O57: STATUS reads exactly at any time; a write is its idle arm, or dropped while busy. -/
theorem statusRegister : Obligations.StatusRegister := by
  refine ⟨⟨rfl, rfl, rfl, rfl, rfl⟩, fun s rest h => ?_, fun s x rest h hbusy => ?_, fun s x rest h hbusy => ?_⟩
  · exact ⟨_, step_of_read_exact h (by decide) windowTarget_status (.inr rfl) rfl, rfl, statusWord_fields _⟩
  · exact step_of_hostWrites_idle h (by decide) windowTarget_status hbusy
  · exact step_of_hostWrites_busy h (by decide) windowTarget_status (by decide) hbusy

end Sys2Proof.Machine
end

/-! The host window (20_memory.md R73-R78): where each target stands, what a read gives and what a write leaves. -/

section
namespace Sys2Proof.Machine

open Sys2Proof.Claims

/-! The map of the window (20_memory.md R73-R75). -/

/-- The byte offset of a target; 0 for reserved, which stands nowhere. -/
def WindowTarget.place : WindowTarget → Nat
  | .id | .reserved => 0x0000
  | .ctrl => 0x0004
  | .status => 0x0008
  | .start => 0x000C
  | .pc => 0x0010
  | .ecode => 0x0014
  | .epc => 0x0018
  | .einfo => 0x001C
  | .var => 0x0020
  | .mid => 0x0024
  | .cnt => 0x0028
  | .flags => 0x002C
  | .b i => 0x0040 + 4 * i.toNat
  | .e i => 0x0060 + 4 * i.toNat
  | .n i => 0x0080 + 4 * i.toNat
  | .cm i => 0x1000 + 4 * i
  | .xm i => 0x2000 + 4 * i
  | .sm i => 0x4000 + 4 * i

/-- A target stands in the window: it is a register or a word that its memory has (00_scope.md R10). -/
def WindowTarget.Stands : WindowTarget → Prop
  | .cm i => i < 256
  | .xm i => i < 64
  | .sm i => i < 1024
  | .reserved => False
  | _ => True

section
variable {off : BitVec 16} {tg : WindowTarget}

theorem windowTarget_of_place (hstands : tg.Stands) (hplace : off.toNat = tg.place) : windowTarget off = tg := by
  cases tg with
  | reserved => exact hstands.elim
  | b i | e i | n i =>
    have hi := i.isLt
    simp only [WindowTarget.place] at hplace
    simp (disch := omega) only [windowTarget, wordIndex, hplace, if_pos, if_neg]
    simp
  | cm i | xm i | sm i =>
    simp only [WindowTarget.place, WindowTarget.Stands] at hplace hstands
    simp (disch := omega) only [windowTarget, wordIndex, hplace, Config.cmSize, Config.xmSize, Config.smSize, if_pos,
      if_neg]
    simp
  | _ =>
    simp only [WindowTarget.place] at hplace
    simp [windowTarget, hplace]

theorem windowTarget_of_not_listed (h : ¬ListedOffset off.toNat) : windowTarget off = .reserved := by
  unfold ListedOffset at h
  simp (disch := omega) only [windowTarget, Config.cmSize, Config.xmSize, Config.smSize, if_neg]

/-- The targets below 0x0030, in the order of the register map (20_memory.md R73). -/
def controlTargets : List WindowTarget :=
  [.id, .ctrl, .status, .start, .pc, .ecode, .epc, .einfo, .var, .mid, .cnt, .flags]

/-- Something stands at every aligned offset that the map lists. -/
theorem exists_place_of_listed {a : Nat} (halign : a % 4 = 0) (h : ListedOffset a) :
    ∃ tg : WindowTarget, tg.Stands ∧ a = tg.place := by
  obtain ⟨k, rfl⟩ : ∃ k, a = 4 * k := ⟨a / 4, by omega⟩
  obtain h | h | h | h | h := h
  · have hplaces : ∀ k < 12, ∃ tg ∈ controlTargets, 4 * k = tg.place := by decide
    have hstand : ∀ tg ∈ controlTargets, tg.Stands := by simp [controlTargets, WindowTarget.Stands]
    obtain ⟨tg, hmem, hplace⟩ := hplaces k (by omega)
    exact ⟨tg, hstand tg hmem, hplace⟩
  · by_cases hb : 4 * k < 0x0060
    · exact ⟨.b (BitVec.ofNat 3 (k - 0x10)), trivial, by simp only [WindowTarget.place, BitVec.toNat_ofNat]; omega⟩
    by_cases he : 4 * k < 0x0080
    · exact ⟨.e (BitVec.ofNat 3 (k - 0x18)), trivial, by simp only [WindowTarget.place, BitVec.toNat_ofNat]; omega⟩
    · exact ⟨.n (BitVec.ofNat 3 (k - 0x20)), trivial, by simp only [WindowTarget.place, BitVec.toNat_ofNat]; omega⟩
  · exact ⟨.cm (k - 0x400), by simp only [WindowTarget.Stands]; omega, by simp only [WindowTarget.place]; omega⟩
  · exact ⟨.xm (k - 0x800), by simp only [WindowTarget.Stands]; omega, by simp only [WindowTarget.place]; omega⟩
  · exact ⟨.sm (k - 0x1000), by simp only [WindowTarget.Stands]; omega, by simp only [WindowTarget.place]; omega⟩

/-- What an aligned offset names stands there, unless nothing does (20_memory.md R75). -/
theorem windowTarget_stands (halign : off.toNat % 4 = 0) (h : windowTarget off ≠ .reserved) :
    (windowTarget off).Stands ∧ off.toNat = (windowTarget off).place := by
  by_cases hlisted : ListedOffset off.toNat
  · obtain ⟨tg, hstands, hplace⟩ := exists_place_of_listed halign hlisted
    exact windowTarget_of_place hstands hplace ▸ ⟨hstands, hplace⟩
  · exact absurd (windowTarget_of_not_listed hlisted) h

theorem windowTarget_eq_reserved_iff (halign : off.toNat % 4 = 0) :
    windowTarget off = .reserved ↔ ¬ListedOffset off.toNat := by
  refine ⟨fun h hlisted => ?_, windowTarget_of_not_listed⟩
  obtain ⟨tg, hstands, hplace⟩ := exists_place_of_listed halign hlisted
  rw [windowTarget_of_place hstands hplace] at h
  exact (h ▸ hstands :)

/-- Only one offset names a target. -/
theorem off_eq_of_windowTarget (halign : off.toNat % 4 = 0) (h : windowTarget off = tg) (hne : tg ≠ .reserved) :
    off = BitVec.ofNat 16 tg.place := by
  subst h
  rw [← (windowTarget_stands halign hne).2, BitVec.ofNat_toNat, BitVec.setWidth_eq]

/-! Host accesses, one step each. -/

variable {s : State} {x : Word} {rest : List HostEvent}

/-- A read of what stands at an offset gives its value, if the unit is idle or the read is exact at any time. -/
theorem gives_of_place (h : s.host = .read off 4 :: rest) (halign : off.toNat % 4 = 0)
    (hexact : s.busy = false ∨ exactWhileBusy tg = true) (hstands : tg.Stands) (hplace : off.toNat = tg.place)
    (hval : s.windowValue tg = .ok x) : Gives s rest x := by
  refine step_of_read_exact h halign (windowTarget_of_place hstands hplace) hexact ?_
  cases tg <;> exact hval

/-- A reserved offset reads 0 at any time (20_memory.md R75, log 8). -/
theorem gives_of_not_listed (h : s.host = .read off 4 :: rest) (halign : off.toNat % 4 = 0)
    (hlisted : ¬ListedOffset off.toNat) : Gives s rest 0#32 :=
  step_of_read_exact h halign (windowTarget_of_not_listed hlisted) (.inr rfl) rfl

/-- A read of an idle unit is refused where the word has not been written (10_state.md R57, log 2). -/
theorem step_of_read_refused {r : Refusal} (h : s.host = .read off 4 :: rest) (halign : off.toNat % 4 = 0)
    (hidle : s.busy = false) (htg : windowTarget off = tg)
    (hval : { s with host := rest }.windowValue tg = .error (.refuse r)) : step s = .refused r := by
  rw [step_of_read h halign htg, State.hostRead, if_neg (by simp [hidle]), hval]
  rfl

/-- CTRL reads IE, zero-extended (10_state.md R47). -/
theorem State.ctrlWord_eq (s : State) : s.ctrlWord = if s.ie = true then 1#32 else 0#32 := by
  unfold State.ctrlWord
  cases s.ie <;> rfl

theorem readWord_of_none {w : Nat} {m : Memory w} (r : Nat → Refusal) {a : Nat} (h : m.read? a = none) :
    readWord m r a = .error (.refuse (r a)) := by
  simp [readWord, h]

/-- A memory word is what an idle read of its offset gives, or the read is refused. -/
theorem givesWord_of_place {w : Nat} {m : Memory w} {r : Nat → Refusal} {a : Nat}
    (h : s.host = .read off 4 :: rest) (halign : off.toNat % 4 = 0) (hidle : s.busy = false) (hstands : tg.Stands)
    (hplace : off.toNat = tg.place)
    (hval : { s with host := rest }.windowValue tg = (readWord m r a).map (·.setWidth 32)) :
    GivesWord s rest m a (r a) := by
  have htg := windowTarget_of_place hstands hplace
  constructor
  · intro x hx
    refine step_of_read_exact h halign htg (.inl hidle) (hval.trans ?_)
    rw [readWord_ok.2 hx]
    rfl
  · intro hx
    refine step_of_read_refused h halign hidle htg (hval.trans ?_)
    rw [readWord_of_none r hx]
    rfl

/-- 20_memory.md R73-R76, R78: what a read of an idle unit gives, offset by offset. -/
theorem readsAs (h : s.host = .read off 4 :: rest) (halign : off.toNat % 4 = 0) (hidle : s.busy = false) :
    ReadsAs s off rest := by
  have hreg {tg : WindowTarget} {x : Word} (hplace : off.toNat = tg.place) (hstands : tg.Stands)
      (hval : s.windowValue tg = .ok x) : Gives s rest x :=
    gives_of_place h halign (.inl hidle) hstands hplace hval
  refine ⟨fun e => ?_, fun e => ?_, fun e => ?_, fun e => ?_, fun e => ?_, fun e => ?_, fun e => ?_, fun e => ?_,
    fun e => ?_, fun e => ?_, fun e => ?_, fun i hi => ?_, fun i hi => ?_, fun i hi => ?_, fun i hlt hi => ?_,
    fun i hlt hi => ?_, fun i hlt hi => ?_, gives_of_not_listed h halign⟩
  · exact hreg (tg := .id) (e ▸ rfl) trivial rfl
  · exact hreg (tg := .ctrl) (e ▸ rfl) trivial (congrArg _ s.ctrlWord_eq)
  · exact hreg (tg := .start) (e ▸ rfl) trivial rfl
  · exact hreg (tg := .pc) (e ▸ rfl) trivial rfl
  · exact hreg (tg := .ecode) (e ▸ rfl) trivial rfl
  · exact hreg (tg := .epc) (e ▸ rfl) trivial rfl
  · exact hreg (tg := .einfo) (e ▸ rfl) trivial rfl
  · exact hreg (tg := .var) (e ▸ rfl) trivial rfl
  · exact hreg (tg := .mid) (e ▸ rfl) trivial rfl
  · exact hreg (tg := .cnt) (e ▸ rfl) trivial rfl
  · exact hreg (tg := .flags) (e ▸ rfl) trivial rfl
  · exact hreg (tg := .b i) hi trivial rfl
  · exact hreg (tg := .e i) hi trivial rfl
  · exact hreg (tg := .n i) hi trivial rfl
  · refine givesWord_of_place (tg := .cm i) h halign hidle hlt hi ?_
    simp only [State.windowValue, BitVec.setWidth_eq]
    exact (congrFun Except.map_id _).symm
  · exact givesWord_of_place (tg := .xm i) h halign hidle hlt hi rfl
  · exact givesWord_of_place (tg := .sm i) h halign hidle hlt hi rfl

end

/-- Settles O59: the map by windowTarget_of_place, the reserved offsets as those not listed, the reads by readsAs. -/
theorem windowMap : Obligations.WindowMap := by
  have hplaced (tg : WindowTarget) (hstands : tg.Stands) (hlt : tg.place < 2 ^ 16) :
      windowTarget (BitVec.ofNat 16 tg.place) = tg :=
    windowTarget_of_place hstands (by rw [BitVec.toNat_ofNat, Nat.mod_eq_of_lt hlt])
  refine ⟨hplaced .id trivial (by decide), hplaced .ctrl trivial (by decide), hplaced .status trivial (by decide),
    hplaced .start trivial (by decide), hplaced .pc trivial (by decide), hplaced .ecode trivial (by decide),
    hplaced .epc trivial (by decide), hplaced .einfo trivial (by decide), hplaced .var trivial (by decide),
    hplaced .mid trivial (by decide), hplaced .cnt trivial (by decide), hplaced .flags trivial (by decide),
    fun i => ?_, fun i hi => ?_, fun i hi => ?_, fun i hi => ?_, fun off halign => ?_,
    fun s off rest h hidle halign => ?_⟩
  · have hlt := i.isLt
    exact ⟨hplaced (.b i) trivial (by simp only [WindowTarget.place]; omega),
      hplaced (.e i) trivial (by simp only [WindowTarget.place]; omega),
      hplaced (.n i) trivial (by simp only [WindowTarget.place]; omega)⟩
  · exact hplaced (.cm i) hi (by simp only [WindowTarget.place]; omega)
  · exact hplaced (.xm i) hi (by simp only [WindowTarget.place]; omega)
  · exact hplaced (.sm i) hi (by simp only [WindowTarget.place]; omega)
  · exact windowTarget_eq_reserved_iff halign
  · exact readsAs h halign hidle

/-- A read of a running unit is never refused, and changes the value read and the count of draws only (20_memory.md R77,
logs 7 and 21). -/
theorem State.hostRead_busy {s : State} (tg : WindowTarget) (hbusy : s.busy = true) :
    ∃ x n, s.hostRead tg = .ok { s with hostData := x, draws := n } := by
  cases hexact : exactWhileBusy tg with
  | false => exact ⟨_, _, if_pos (by simp [hbusy, hexact])⟩
  | true =>
    obtain ⟨x, hx⟩ : ∃ x, s.windowValue tg = .ok x := by
      cases tg with
      | id | ctrl | status | reserved => exact ⟨_, rfl⟩
      | _ => cases hexact
    exact ⟨x, s.draws, by rw [State.hostRead, if_neg (by simp [hexact]), hx]⟩

/-- Settles O56: only 0x0004 names CTRL, every other write is dropped; no busy read is refused. -/
theorem busyUnitDropsHostWrites : Obligations.BusyUnitDropsHostWrites := by
  refine fun s off rest hbusy halign => ⟨fun x h hoff => ?_, fun h => ?_, fun h => ?_, fun h => ?_, fun h hlisted => ?_⟩
  · exact step_of_hostWrites_busy h halign rfl (fun e => hoff (off_eq_of_windowTarget halign e (by decide))) hbusy
  · exact gives_of_place (tg := .id) h (by decide) (.inr rfl) trivial (by decide) rfl
  · exact gives_of_place (tg := .ctrl) h (by decide) (.inr rfl) trivial (by decide) (congrArg _ s.ctrlWord_eq)
  · obtain ⟨x, n, hread⟩ := State.hostRead_busy (s := { s with host := rest }) (windowTarget off) hbusy
    exact ⟨x, n, by rw [step_of_read h halign rfl, hread, State.finish_ok]⟩
  · exact gives_of_not_listed h halign hlisted

/-! Writes of an idle unit (20_memory.md R76). -/

theorem variantOfNumber_eq_none_iff : ∀ v : BitVec 2, variantOfNumber v = none ↔ v = 3#2 := by decide

theorem variantNumber_of_variantOfNumber {v : BitVec 2} {y : Variant} (h : variantOfNumber v = some y) :
    variantNumber y = v := by
  revert v
  cases y <;> decide

/-- A write of VAR selects the variant that bits 1:0 name, and of the reserved 3 changes nothing (10_state.md R40). -/
theorem State.writeIdle_var (s : State) (x : Word) :
    (∃ y, variantOfNumber (x.setWidth 2) = some y ∧ s.writeIdle .var x = s.setVar y) ∨
    variantOfNumber (x.setWidth 2) = none ∧ s.writeIdle .var x = s := by
  cases h : variantOfNumber (x.setWidth 2) with
  | some y => exact .inl ⟨y, rfl, by simp only [State.writeIdle, h]⟩
  | none => exact .inr ⟨rfl, by simp only [State.writeIdle, h]⟩

theorem State.variantNumber_writeIdle_var (s : State) (x : Word) :
    variantNumber (s.writeIdle .var x).var =
      if x.extractLsb' 0 2 = 3#2 then variantNumber s.var else x.extractLsb' 0 2 := by
  have hlow : x.extractLsb' 0 2 = x.setWidth 2 := (BitVec.setWidth_eq_extractLsb' (by decide)).symm
  rw [hlow]
  obtain ⟨y, hy, hwrite⟩ | ⟨hnone, hwrite⟩ := s.writeIdle_var x
  · have hlegal : x.setWidth 2 ≠ 3#2 := fun e => by simp [(variantOfNumber_eq_none_iff _).2 e] at hy
    rw [hwrite, State.setVar_var, variantNumber_of_variantOfNumber hy, if_neg hlegal]
  · rw [hwrite, if_pos ((variantOfNumber_eq_none_iff _).1 hnone)]

/-- A write changes what stands at its target only; CTRL, STATUS and START have effects beyond a stored value. -/
theorem State.writeIdle_keepsAllBut (s : State) (x : Word) {tg : WindowTarget} (hctrl : tg ≠ .ctrl)
    (hstatus : tg ≠ .status) (hstart : tg ≠ .start) :
    KeepsAllBut tg s (s.writeIdle tg x) ∧ (s.writeIdle tg x).host = s.host ∧ (s.writeIdle tg x).busy = s.busy := by
  have hkeep : KeepsAllBut tg s s := by simp [KeepsAllBut, KeepsFaultRegs, KeepsRun]
  cases tg with
  | ctrl => exact absurd rfl hctrl
  | status => exact absurd rfl hstatus
  | start => exact absurd rfl hstart
  | id | pc | ecode | epc | einfo | reserved => exact ⟨hkeep, rfl, rfl⟩
  | var =>
    obtain ⟨y, -, hwrite⟩ | ⟨-, hwrite⟩ := s.writeIdle_var x
    · rw [hwrite]
      simp [KeepsAllBut, KeepsFaultRegs, KeepsRun, State.getB, State.getE, State.getN]
    · exact hwrite.symm ▸ ⟨hkeep, rfl, rfl⟩
  | mid | cnt | flags =>
    simp [State.writeIdle, KeepsAllBut, KeepsFaultRegs, KeepsRun, State.getB, State.getE, State.getN]
  | b i | e i | n i =>
    simp +contextual [State.writeIdle, KeepsAllBut, KeepsFaultRegs, KeepsRun, State.getB_setB, State.getE_setE,
      State.getN_setN, eq_comm]
  | cm i | xm i | sm i =>
    simp +contextual [State.writeIdle, KeepsAllBut, KeepsFaultRegs, KeepsRun, Memory.read?_write, eq_comm]

/-- The targets that store the low bits of any word written to them. -/
def WindowTarget.StoresWord : WindowTarget → Prop
  | .mid | .cnt | .flags | .b _ | .e _ | .n _ | .cm _ | .xm _ | .sm _ => True
  | _ => False

/-- What a write stores is what a read finds there: the word's low bits, zero-extended (20_memory.md R76). -/
theorem State.windowValue_writeIdle (s : State) (x : Word) {tg : WindowTarget} (h : tg.StoresWord) :
    (s.writeIdle tg x).windowValue tg = .ok ((x.setWidth (windowWidth tg)).setWidth 32) := by
  cases tg with
  | mid => rfl
  | cnt | b | e | n => simp [State.writeIdle, State.windowValue, windowWidth]
  | flags =>
    have hbits : BitVec.ofBool (x.getLsbD 1) ++ BitVec.ofBool (x.getLsbD 0) = x.setWidth 2 := by
      refine BitVec.eq_of_getLsbD_eq fun k hk => ?_
      rw [BitVec.getLsbD_append, BitVec.getLsbD_setWidth]
      interval_cases k <;> simp
    exact congrArg (fun v : BitVec 2 => Except.ok (v.setWidth 32)) hbits
  | cm i => simp [State.writeIdle, State.windowValue, windowWidth, readWord]
  | xm i | sm i => simp [State.writeIdle, State.windowValue, windowWidth, readWord, Except.map]
  | _ => exact h.elim

/-- A write of an idle unit, then a read of the same offset, which finds what the write left there. -/
theorem step_write_then_read {s : State} {off : BitVec 16} {tg : WindowTarget} {x v : Word} {later : List HostEvent}
    (h : HostWrites s off x (.read off 4 :: later)) (hidle : s.busy = false) (halign : off.toNat % 4 = 0)
    (htg : windowTarget off = tg) (hctrl : tg ≠ .ctrl) (hstatus : tg ≠ .status) (hstart : tg ≠ .start)
    (hval : ({ s with host := .read off 4 :: later }.writeIdle tg x).windowValue tg = .ok v) :
    Completes (step s) fun t => t = { s with host := .read off 4 :: later }.writeIdle tg x ∧
      Completes (step t) fun u => u.hostData = v := by
  obtain ⟨-, hhost, hbusy⟩ := State.writeIdle_keepsAllBut { s with host := .read off 4 :: later } x hctrl hstatus hstart
  refine ⟨_, step_of_hostWrites_idle h halign htg hidle, rfl, _,
    step_of_read_exact hhost halign htg (.inl (hbusy.trans hidle)) (x := v) ?_, rfl⟩
  exact hval.symm ▸ by cases tg <;> rfl

/-- Settles O60: the frame by writeIdle_keepsAllBut, the stored value by windowValue_writeIdle. -/
theorem hostWriteThenRead : Obligations.HostWriteThenRead := by
  refine ⟨⟨rfl, rfl, rfl, fun _ => rfl, fun _ => rfl, fun _ => rfl, fun _ => rfl, fun _ => rfl, fun _ => rfl⟩, ?_⟩
  intro s off x rest h hidle halign
  refine ⟨fun hctrl hstatus hstart => ?_, fun later hrest => ⟨fun htarget => ?_, fun hoff => ?_⟩⟩
  · have hne {tg : WindowTarget} (hoff : off ≠ BitVec.ofNat 16 tg.place) (hres : tg ≠ .reserved) :
        windowTarget off ≠ tg :=
      fun e => hoff (off_eq_of_windowTarget halign e hres)
    obtain ⟨hkeeps, hhost, -⟩ := State.writeIdle_keepsAllBut { s with host := rest } x
      (hne (tg := .ctrl) hctrl (by decide)) (hne (tg := .status) hstatus (by decide))
      (hne (tg := .start) hstart (by decide))
    exact ⟨_, step_of_hostWrites_idle h halign rfl hidle, hkeeps, hhost⟩
  · subst hrest
    have hstores : (windowTarget off).StoresWord := by
      obtain e | e | e | ⟨i, e⟩ | ⟨i, e⟩ | ⟨i, e⟩ | ⟨i, e⟩ | ⟨i, e⟩ | ⟨i, e⟩ := htarget <;> exact e ▸ trivial
    have hne {tg : WindowTarget} (htg : ¬tg.StoresWord) : windowTarget off ≠ tg := fun e => htg (e ▸ hstores)
    obtain ⟨t, ht, -, hread⟩ := step_write_then_read h hidle halign rfl (hne id) (hne id) (hne id)
      (State.windowValue_writeIdle _ x hstores)
    exact ⟨t, ht, hread⟩
  · subst hrest hoff
    obtain ⟨t, ht, rfl, hread⟩ := step_write_then_read h hidle halign (tg := .var) (by decide) (by decide) (by decide)
      (by decide) rfl
    exact ⟨_, ht, State.variantNumber_writeIdle_var _ x, hread⟩

end Sys2Proof.Machine
end

/-! What a command can change, and the invariant (20_memory.md R80, R91; 60_exceptions.md R340, R345). -/

section
namespace Sys2Proof.Machine

open Sys2Proof.Claims

/-! A memory in canonical form, within its size. -/

/-- The memory's indices rise strictly and are below its size. -/
def Memory.Valid {w : Nat} (m : Memory w) (size : Nat) : Prop := m.wf ∧ m.below size

section
variable {w size a : Nat} {m : Memory w}

theorem Memory.Valid.write (x : BitVec w) (h : m.Valid size) (ha : a < size) : (m.write a x).Valid size :=
  ⟨Memory.wf_write a x h.1, Memory.below_write x h.2 ha⟩

theorem Memory.Valid.writeList (xs : List (BitVec w)) (h : m.Valid size) (ha : xs.length = 0 ∨ a + xs.length ≤ size) :
    (m.writeList a xs).Valid size :=
  ⟨Memory.wf_writeList a xs h.1, Memory.below_writeList xs h.2 ha⟩

end

theorem State.memoriesWf_iff (s : State) :
    s.memoriesWf ↔ s.sm.Valid Config.smSize ∧ s.xm.Valid Config.xmSize ∧ s.cm.Valid Config.cmSize := by
  simp only [State.memoriesWf, Memory.Valid, and_assoc]

/-! What a command changes. -/

/-- Nothing differs but what a command may write: registers, SM, XM, PC, FLAGS, VAR, MID, RC and CNT. -/
abbrev WritesData (s t : State) : Prop :=
  t = { s with
    b := t.b, e := t.e, n := t.n, sm := t.sm, xm := t.xm, pc := t.pc, z := t.z, v := t.v, var := t.var, mid := t.mid
    rc := t.rc, cnt := t.cnt }

/-- A command that was not HALT ran to its end: CM and the control state are as before, SM and XM stay valid, and RC is
a code that the unit produces (43_lfsr_checksum.md R253). -/
structure Completed (s t : State) : Prop where
  frame : WritesData s t
  sm : s.sm.Valid Config.smSize → t.sm.Valid Config.smSize
  xm : s.xm.Valid Config.xmSize → t.xm.Valid Config.xmSize
  rc : s.rc ≠ .specInconsistent → t.rc ≠ .specInconsistent

/-- The end of a command that answers and is not HALT. -/
def Ended (s t : State) : Prop := (∃ c info, t = s.takeFault c info) ∨ Completed s t

theorem Yields.bind_ok {P : State → Prop} {α : Type} {x : Except Stop α} {f : α → Except Stop State}
    (h : ∀ a, x = .ok a → Yields P (f a)) : Yields P (x >>= f) := fun t e =>
  have ⟨a, hx, ha⟩ := bind_eq_ok.1 e
  h a hx t ha

section
variable {s t : State}

/-- A command that writes no memory and not RC. -/
theorem Completed.of_frame (h : WritesData s t) (hsm : t.sm = s.sm) (hxm : t.xm = s.xm) (hrc : t.rc = s.rc) :
    Completed s t := ⟨h, fun hv => hsm ▸ hv, fun hv => hxm ▸ hv, fun hr => hrc ▸ hr⟩

theorem ended_of_finish {r : Except Stop State} (h : s.finish r = .next t) (hbody : Yields (Completed s) r) :
    Ended s t :=
  (State.finish_next.1 h).symm.imp (fun ⟨c, info, _, ht⟩ => ⟨c, info, ht⟩) (hbody t)

theorem completed_putPoly (k : RegIdx) (xs : List Ext) (z : Bool) : Yields (Completed s) (s.putPoly k xs z) :=
  fun _ h => by
    obtain ⟨hfits, rfl⟩ := State.putPoly_ok.1 h
    exact ⟨rfl, id, fun hv => hv.writeList xs hfits, id⟩

theorem completed_feed (xs : List Sym) (c : Word) : Completed s ((s.feed xs).setCnt c).advance := by
  unfold State.feed
  split
  · exact .of_frame rfl rfl rfl rfl
  · exact .of_frame rfl rfl rfl rfl

theorem State.verdict_ne_specInconsistent (s : State) : s.verdict ≠ .specInconsistent := by
  unfold State.verdict
  split
  · decide
  · split_ifs <;> decide

theorem correctResidue_ne_specInconsistent (d : Midstate) (n : Nat) : (correctResidue d n).1 ≠ .specInconsistent := by
  unfold correctResidue
  dsimp only
  split_ifs
  · decide
  · decide
  · split
    · split_ifs <;> simp
    · decide

theorem execLchk_ended {rd : RegIdx} (h : execLchk rd s = .next t) : Ended s t := by
  unfold execLchk at h
  split at h
  · cases h
    exact .inr ⟨rfl, id, id, nofun⟩
  · refine ended_of_finish h (.bind_ok fun _ hfits =>
      .ite (.ok ⟨rfl, id, id, nofun⟩) (.ok ⟨rfl, fun hv => ?_, id, nofun⟩))
    exact hv.writeList _ (checkRegion_ok.1 hfits)

/-- CORR writes at most one word, inside the region it read (44_correction.md R280). -/
theorem completed_reportFix {base : Nat} {xs : List Sym} {r : ResultCode} (rd : RegIdx) (fix : Option (Nat × Sym))
    (hne : xs ≠ []) (hfits : base + xs.length ≤ Config.smSize) (hr : r ≠ .specInconsistent) :
    Completed s ((s.applyFix base xs fix).reportFix rd r fix) := by
  have hpos := List.length_pos_of_ne_nil hne
  cases fix with
  | none => exact ⟨rfl, id, id, fun _ => hr⟩
  | some f => exact ⟨rfl, fun hv => hv.write _ (by omega), id, fun _ => hr⟩

theorem execCorr_ended {rd ra : RegIdx} (h : execCorr rd ra s = .next t) : Ended s t := by
  refine ended_of_finish h (.bind_ok fun _ hcheck => .bind_ok fun xs hxs => ?_)
  split
  · exact .ok ⟨rfl, id, id, nofun⟩
  · split
    · exact .ok ⟨rfl, id, id, nofun⟩
    · rename_i hlen
      simp only [checksumLength] at hlen
      have hfits := State.checkSm_ok.1 hcheck
      rw [← State.smRegion_length hxs] at hfits
      refine .ok (completed_reportFix rd _ ?_ (by omega) (correctResidue_ne_specInconsistent _ _))
      exact List.ne_nil_of_length_pos (by omega)

/-- What a command other than HALT can do. -/
theorem exec_ended {i : Instr} (hhalt : i ≠ .halt) (h : exec i s = .next t) : Ended s t := by
  cases i with
  | halt => exact absurd rfl hhalt
  | lchk => exact execLchk_ended h
  | corr => exact execCorr_ended h
  | nop | lib | addb | mulb | powb | negb | lie | adde | mule | powe | nege | emb | lin | lhn | naddi | lrst | lres =>
    cases h
    exact .inr (.of_frame rfl rfl rfl rfl)
  | lver =>
    cases h
    exact .inr ⟨rfl, id, id, fun _ => s.verdict_ne_specInconsistent⟩
  | selft =>
    cases h
    exact .inr ⟨rfl, id, id, nofun⟩
  | lfb =>
    cases h
    exact .inr (completed_feed _ _)
  | bc =>
    obtain rfl | rfl | rfl := execBc_next h
    · exact .inl ⟨_, _, rfl⟩
    · exact .inr (.of_frame rfl rfl rfl rfl)
    · exact .inr (.of_frame rfl rfl rfl rfl)
  | dbnz => obtain rfl | rfl := execDbnz_next h <;> exact .inr (.of_frame rfl rfl rfl rfl)
  | setv =>
    obtain ⟨_, _, rfl⟩ | ⟨_, rfl⟩ := execSetv_next h
    · exact .inr (.of_frame rfl rfl rfl rfl)
    · exact .inl ⟨_, _, rfl⟩
  | invb | inve | prj => exact ended_of_finish h (.ite (.error _) (.ok (.of_frame rfl rfl rfl rfl)))
  | sts => exact ended_of_finish h (.bind_ok fun _ ha => .ok ⟨rfl, fun hv => hv.write _ (checkAddr_ok.1 ha), id, id⟩)
  | stx => exact ended_of_finish h (.bind_ok fun _ ha => .ok ⟨rfl, id, fun hv => hv.write _ (checkAddr_ok.1 ha), id⟩)
  | lds | ldx | pevb | peve =>
    exact ended_of_finish h (.bind fun _ => .bind fun _ => .ok (.of_frame rfl rfl rfl rfl))
  | lfm => exact ended_of_finish h (.bind fun _ => .bind fun _ => .ok (completed_feed _ _))
  | synd => exact ended_of_finish h (completed_putPoly _ _ _)
  | pemb | pder | loc => exact ended_of_finish h (.bind fun _ => .bind fun _ => completed_putPoly _ _ _)
  | pmul | pmulx =>
    exact ended_of_finish h (.bind fun _ => .bind fun _ => .bind fun _ => .bind fun _ => completed_putPoly _ _ _)
  | prem =>
    refine ended_of_finish h (.bind fun _ => .bind fun _ => .bind fun _ => .bind fun _ => ?_)
    split
    · exact .error _
    · exact completed_putPoly _ _ _
  | roots =>
    exact ended_of_finish h (.bind fun _ => .ite (.error _) (.bind fun _ => .bind fun _ => completed_putPoly _ _ _))
  | forney =>
    exact ended_of_finish h (.bind fun _ => .bind fun _ => .bind fun _ => .bind fun _ => .bind fun _ =>
      .bind fun _ => .bind fun _ => .bind fun _ => .bind fun _ => completed_putPoly _ _ _)

/-- What a command boundary without an abort can do. -/
theorem runCommand_ended (h : s.runCommand = .next t) : t = s.halt ∨ Ended s t := by
  obtain ⟨-, rfl⟩ | ⟨w, -, -, ⟨_, -, rfl⟩ | ⟨i, -, hexec⟩⟩ := runCommand_next h
  · exact .inr (.inl ⟨_, _, rfl⟩)
  · exact .inr (.inl ⟨_, _, rfl⟩)
  · by_cases hhalt : i = .halt
    · subst hhalt
      cases hexec
      exact .inl rfl
    · exact .inr (exec_ended hhalt hexec)

/-! CM (20_memory.md R77, R91). -/

theorem WritesData.cm_eq (h : WritesData s t) : t.cm = s.cm := (congrArg State.cm h :)

theorem sequencerStep_cm (h : s.sequencerStep = .next t) : t.cm = s.cm := by
  obtain ⟨-, rfl⟩ | ⟨-, -, rfl⟩ | ⟨-, -, hrun⟩ := sequencerStep_next h
  · rfl
  · rfl
  · obtain rfl | ⟨_, _, rfl⟩ | hdone := runCommand_ended hrun
    · rfl
    · rfl
    · exact hdone.frame.cm_eq

theorem State.writeCtrl_cm (s : State) (x : Word) : (s.writeCtrl x).cm = s.cm := by
  unfold State.writeCtrl
  dsimp only
  split <;> rfl

theorem State.writeBusy_cm (s : State) (tg : WindowTarget) (x : Word) : (s.writeBusy tg x).cm = s.cm := by
  by_cases hctrl : tg = .ctrl
  · subst hctrl
    exact s.writeCtrl_cm x
  · rw [s.writeBusy_of_ne_ctrl x hctrl]

theorem hostRead_cm {tg : WindowTarget} (h : s.hostRead tg = .ok t) : t.cm = s.cm := by
  obtain ⟨_, _, hread⟩ | ⟨_, hread⟩ := s.hostRead_cases tg
  · rw [hread] at h
    cases h
    rfl
  · rw [hread] at h
    cases h

end

/-- Settles O52: only a host write reaches CM, and a running unit drops it. -/
theorem runningUnitKeepsCommandMemory : Obligations.RunningUnitKeepsCommandMemory := by
  intro s t hbusy hreset hstep a
  suffices hcm : t.cm = s.cm by rw [hcm]
  obtain ⟨-, hseq⟩ | ⟨rest, ⟨-, hseq⟩ | ⟨off, -, -, hread⟩ | ⟨off, x, -, -, rfl⟩ | ⟨hhost, -⟩⟩ := step_next hstep
  · exact sequencerStep_cm hseq
  · exact sequencerStep_cm (s := { s with host := rest }) hseq
  · exact hostRead_cm (s := { s with host := rest }) hread
  · rw [State.hostWrite, if_pos hbusy, State.writeBusy_cm]
  · exact absurd hhost (hreset rest)

/-! The invariant, part by part. -/

section
variable {s t : State}

/-- Settles O6: nothing is listed in a memory, no code is set and nothing runs. -/
theorem resetSatisfiesInvariant : Obligations.ResetSatisfiesInvariant :=
  ⟨reset_memoriesWf, by decide, by decide⟩

theorem faultNumber_le (c : FaultCode) : (faultNumber c).toNat ≤ 9 := by
  cases c <;> decide

theorem faultNumber_ne_zero (c : FaultCode) : faultNumber c ≠ 0#8 := by
  cases c <;> decide

theorem inv_takeFault (c : FaultCode) (info : Word) (h : s.Inv) (hstop : s.stopReq = false) :
    (s.takeFault c info).Inv := by
  obtain ⟨hmem, ⟨-, -, hrc⟩, -⟩ := h
  exact ⟨hmem, ⟨faultNumber_le c, fun _ => faultNumber_ne_zero c, hrc⟩, nofun,
    fun e => absurd (hstop.symm.trans e) (by decide)⟩

theorem inv_halt (h : s.Inv) (hstop : s.stopReq = false) : s.halt.Inv := by
  obtain ⟨hmem, hcodes, -⟩ := h
  exact ⟨hmem, hcodes, nofun, fun e => absurd (hstop.symm.trans e) (by decide)⟩

theorem Completed.inv (hdone : Completed s t) (h : s.Inv) : t.Inv := by
  obtain ⟨hmem, ⟨hecode, herr, hrc⟩, hrun⟩ := h
  obtain ⟨hsm, hxm, hcm⟩ := s.memoriesWf_iff.1 hmem
  refine ⟨t.memoriesWf_iff.2 ⟨hdone.sm hsm, hdone.xm hxm, ?_⟩, ⟨?_, ?_, hdone.rc hrc⟩, ?_⟩
  · rw [hdone.frame.cm_eq]
    exact hcm
  · rw [hdone.frame]
    exact hecode
  · rw [hdone.frame]
    exact herr
  · rw [hdone.frame]
    exact hrun

theorem sequencerStep_inv (h : s.Inv) (hstep : s.sequencerStep = .next t) : t.Inv := by
  obtain ⟨-, rfl⟩ | ⟨-, -, rfl⟩ | ⟨-, hstop, hrun⟩ := sequencerStep_next hstep
  · obtain ⟨hmem, hcodes, hdone, -⟩ := h
    exact ⟨hmem, hcodes, hdone, nofun⟩
  · obtain ⟨hmem, hcodes, hdone, -⟩ := h
    exact inv_takeFault _ _ ⟨hmem, hcodes, hdone, nofun⟩ rfl
  · obtain rfl | ⟨c, info, rfl⟩ | hdone := runCommand_ended hrun
    · exact inv_halt h hstop
    · exact inv_takeFault c info h hstop
    · exact hdone.inv h

theorem hostRead_inv {tg : WindowTarget} (h : s.Inv) (hread : s.hostRead tg = .ok t) : t.Inv := by
  obtain ⟨_, _, hcase⟩ | ⟨_, hcase⟩ := s.hostRead_cases tg
  · rw [hcase] at hread
    cases hread
    exact h
  · rw [hcase] at hread
    cases hread

theorem writeCtrl_inv (x : Word) (h : s.Inv) : (s.writeCtrl x).Inv := by
  obtain ⟨hmem, hcodes, hdone, -⟩ := h
  unfold State.writeCtrl
  dsimp only
  split
  · exact ⟨hmem, ⟨Nat.zero_le _, nofun, nofun⟩, nofun, nofun⟩
  · exact ⟨hmem, hcodes, hdone, fun e => (Bool.and_eq_true_iff.1 e).1⟩

theorem writeIdle_inv {tg : WindowTarget} (x : Word) (h : s.Inv) (hidle : s.busy = false)
    (htg : tg ≠ .reserved → tg.Stands) : (s.writeIdle tg x).Inv := by
  have hkeep := h
  obtain ⟨hmem, ⟨hecode, herr, hrc⟩, hdone, hstop⟩ := h
  obtain ⟨hsm, hxm, hcm⟩ := s.memoriesWf_iff.1 hmem
  cases tg with
  | ctrl => exact writeCtrl_inv x hkeep
  | status =>
    refine ⟨hmem, ⟨hecode, fun e => herr (Bool.and_eq_true_iff.1 e).1, hrc⟩, fun e => ?_, hstop⟩
    exact absurd (hidle.symm.trans e) (by decide)
  | start => exact ⟨hmem, ⟨Nat.zero_le _, nofun, hrc⟩, fun _ => ⟨rfl, rfl⟩, fun _ => rfl⟩
  | var =>
    obtain ⟨y, -, hwrite⟩ | ⟨-, hwrite⟩ := s.writeIdle_var x
    · rw [hwrite]
      exact hkeep
    · rw [hwrite]
      exact hkeep
  | cm i =>
    exact ⟨(State.memoriesWf_iff _).2 ⟨hsm, hxm, hcm.write _ (htg nofun)⟩, ⟨hecode, herr, hrc⟩, hdone, hstop⟩
  | xm i =>
    exact ⟨(State.memoriesWf_iff _).2 ⟨hsm, hxm.write _ (htg nofun), hcm⟩, ⟨hecode, herr, hrc⟩, hdone, hstop⟩
  | sm i =>
    exact ⟨(State.memoriesWf_iff _).2 ⟨hsm.write _ (htg nofun), hxm, hcm⟩, ⟨hecode, herr, hrc⟩, hdone, hstop⟩
  | _ => exact hkeep

theorem hostWrite_inv {tg : WindowTarget} (x : Word) (h : s.Inv) (htg : tg ≠ .reserved → tg.Stands) :
    (s.hostWrite tg x).Inv := by
  unfold State.hostWrite
  split
  · by_cases hctrl : tg = .ctrl
    · subst hctrl
      exact writeCtrl_inv x h
    · rw [s.writeBusy_of_ne_ctrl x hctrl]
      exact h
  · rename_i hidle
    exact writeIdle_inv x h (by simpa using hidle) htg

end

/-- Settles O7: each kind of step keeps the invariant, and a hard reset establishes it. -/
theorem stepKeepsInvariant : Obligations.StepKeepsInvariant := by
  intro s t h hstep
  obtain ⟨-, hseq⟩ | ⟨rest, ⟨-, hseq⟩ | ⟨off, -, -, hread⟩ | ⟨off, x, -, halign, rfl⟩ | ⟨-, rfl⟩⟩ := step_next hstep
  · exact sequencerStep_inv h hseq
  · exact sequencerStep_inv (s := { s with host := rest }) h hseq
  · exact hostRead_inv (s := { s with host := rest }) h hread
  · exact hostWrite_inv (s := { s with host := rest }) x h fun hne => (windowTarget_stands halign hne).1
  · exact resetSatisfiesInvariant

end Sys2Proof.Machine
end

/-! Range faults of source and destination regions (20_memory.md R82, R83; 60_exceptions.md R347). -/

section
namespace Sys2Proof.Machine

open Sys2Proof.Claims

section
variable {s : State} {k rd ra rb rc : RegIdx}

/-! The parts of a command's body, by what its operands hold. -/

theorem bind_error_of_ok {α β : Type} {x : Except Stop α} {a : α} {f : α → Except Stop β} {e : Stop} (h : x = .ok a)
    (hf : f a = .error e) : (x >>= f) = .error e := by
  rw [h, bind_ok, hf]

theorem bind_error_of_error {α β : Type} {x : Except Stop α} {f : α → Except Stop β} {e : Stop} (h : x = .error e) :
    (x >>= f) = .error e := by
  rw [h, bind_error]

theorem State.checkSm_of_not_fits (h : ¬Fits Config.smSize (descBase (s.getN k)) (descLen (s.getN k))) :
    s.checkSm k = .error (.raise .smRange (BitVec.ofNat 32 (max (descBase (s.getN k)) Config.smSize))) :=
  checkRegion_raise .smRange h

theorem State.checkXm_of_not_fits (h : ¬Fits Config.xmSize (descBase (s.getN k)) (descLen (s.getN k))) :
    s.checkXm k = .error (.raise .xmRange (BitVec.ofNat 32 (max (descBase (s.getN k)) Config.xmSize))) :=
  checkRegion_raise .xmRange h

theorem State.checkSm_of_holds {xs : List Sym} (h : SmHolds s k xs) : s.checkSm k = .ok () := State.checkSm_ok.2 h.1

theorem State.smRegion_of_holds {xs : List Sym} (h : SmHolds s k xs) : s.smRegion k = .ok xs := readWords_ok.2 h.2

theorem State.checkXm_of_holds {xs : List Ext} (h : XmHolds s k xs) : s.checkXm k = .ok () := State.checkXm_ok.2 h.1

theorem State.xmRegion_of_holds {xs : List Ext} (h : XmHolds s k xs) : s.xmRegion k = .ok xs := readWords_ok.2 h.2

theorem State.checkVariant_of_ne (h : s.var ≠ .noChecksum) : s.checkVariant = .ok () := by
  unfold State.checkVariant
  cases hvar : s.var with
  | noChecksum => exact absurd hvar h
  | bech32 | bech32m => rfl

theorem checkPositions_ok {ps : List Ext} (h : ∀ p ∈ ps, p.toNat < 1023) : checkPositions ps = .ok () := by
  induction ps with
  | nil => rfl
  | cons p ps ih =>
    obtain ⟨hp, hps⟩ := List.forall_mem_cons.1 h
    rw [checkPositions, codeLength, if_neg (Nat.not_le.2 hp), ih hps]

theorem checkDenominators_ok {c ps : List Ext} (h : ∀ p ∈ ps, forneyDen c p.toNat ≠ 0#10) :
    checkDenominators c ps = .ok () := by
  induction ps with
  | nil => rfl
  | cons p ps ih =>
    obtain ⟨hp, hps⟩ := List.forall_mem_cons.1 h
    rw [checkDenominators, if_neg hp, ih hps]

/-! Commands whose sources are in range and written: only their own faults and the destination remain. -/

theorem exec_pemb_of_holds {a : List Sym} (ha : SmHolds s ra a) :
    exec (.pemb rd ra) s = s.finish (s.putPoly rd (a.map embed) (zeroOfList a)) := by
  simp only [exec, execPemb, State.checkSm_of_holds ha, State.smRegion_of_holds ha, bind_ok]

theorem exec_pder_of_holds {a : List Ext} (ha : XmHolds s ra a) :
    exec (.pder rd ra) s = s.finish (s.putPoly rd (pder a) (zeroOfList (pder a))) := by
  simp only [exec, execPder, State.checkXm_of_holds ha, State.xmRegion_of_holds ha, bind_ok]

theorem exec_pmul_of_holds {a b : List Ext} (ha : XmHolds s ra a) (hb : XmHolds s rb b) :
    exec (.pmul rd ra rb) s = s.finish (s.putPoly rd (pmul a b) (zeroOfList (pmul a b))) := by
  simp only [exec, execPmul, State.checkXm_of_holds ha, State.checkXm_of_holds hb, State.xmRegion_of_holds ha,
    State.xmRegion_of_holds hb, bind_ok]

theorem exec_pmulx_of_holds {a b : List Ext} (d : BitVec 16) (ha : XmHolds s ra a) (hb : XmHolds s rb b) :
    exec (.pmulx rd ra rb d) s =
      s.finish (s.putPoly rd ((pmul a b).take d.toNat) (zeroOfList ((pmul a b).take d.toNat))) := by
  simp only [exec, execPmulx, State.checkXm_of_holds ha, State.checkXm_of_holds hb, State.xmRegion_of_holds ha,
    State.xmRegion_of_holds hb, bind_ok]

theorem exec_prem_of_holds {a b : List Ext} {db : Nat} (ha : XmHolds s ra a) (hb : XmHolds s rb b)
    (hdeg : pdeg b = some db) :
    exec (.prem rd ra rb) s = s.finish (s.putPoly rd (premBy a b db) (zeroOfList (premBy a b db))) := by
  simp only [exec, execPrem, State.checkXm_of_holds ha, State.checkXm_of_holds hb, State.xmRegion_of_holds ha,
    State.xmRegion_of_holds hb, bind_ok, hdeg]

theorem exec_roots_of_holds {c : List Ext} (hvar : s.var ≠ .noChecksum) (hn : (s.getN rb).toNat ≤ 1023)
    (hc : XmHolds s ra c) :
    exec (.roots rd ra rb) s =
      s.finish (s.putPoly rd ((rootPositions c (s.getN rb).toNat).map (BitVec.ofNat 10))
        ((rootPositions c (s.getN rb).toNat).length == 0)) := by
  simp only [exec, execRoots, State.checkVariant_of_ne hvar, codeLength, if_neg (Nat.not_lt.2 hn),
    State.checkXm_of_holds hc, State.xmRegion_of_holds hc, bind_ok]

theorem exec_forney_of_holds {syn c ps : List Ext} (hvar : s.var ≠ .noChecksum) (hsyn : XmHolds s ra syn)
    (hc : XmHolds s rb c) (hps : XmHolds s rc ps) (hpos : ∀ p ∈ ps, p.toNat < 1023)
    (hden : ∀ p ∈ ps, forneyDen c p.toNat ≠ 0#10) :
    exec (.forney rd ra rb rc) s =
      s.finish (s.putPoly rd (ps.map fun p => forneyValue syn c p.toNat)
        (zeroOfList (ps.map fun p => forneyValue syn c p.toNat))) := by
  simp only [exec, execForney, State.checkVariant_of_ne hvar, State.checkXm_of_holds hsyn, State.checkXm_of_holds hc,
    State.checkXm_of_holds hps, State.xmRegion_of_holds hsyn, State.xmRegion_of_holds hc, State.xmRegion_of_holds hps,
    checkPositions_ok hpos, checkDenominators_ok hden, bind_ok]

/-! How a raise ends a command. -/

theorem faults_of_smRange {r : Except Stop State} {info : Word} (h : r = .error (.raise .smRange info)) :
    Faults (s.finish r) s 3#8 info := by
  rw [h]
  rfl

theorem faults_of_xmRange {r : Except Stop State} {info : Word} (h : r = .error (.raise .xmRange info)) :
    Faults (s.finish r) s 4#8 info := by
  rw [h]
  rfl

theorem faults_checkSm {f : Unit → Except Stop State}
    (h : ¬Fits Config.smSize (descBase (s.getN k)) (descLen (s.getN k))) :
    Faults (s.finish (s.checkSm k >>= f)) s 3#8 (BitVec.ofNat 32 (max (descBase (s.getN k)) Config.smSize)) :=
  faults_of_smRange (bind_error_of_error (State.checkSm_of_not_fits h))

theorem faults_checkXm {f : Unit → Except Stop State}
    (h : ¬Fits Config.xmSize (descBase (s.getN k)) (descLen (s.getN k))) :
    Faults (s.finish (s.checkXm k >>= f)) s 4#8 (BitVec.ofNat 32 (max (descBase (s.getN k)) Config.xmSize)) :=
  faults_of_xmRange (bind_error_of_error (State.checkXm_of_not_fits h))

theorem faults_putPoly {xs : List Ext} {len : Nat} (z : Bool) (hlen : xs.length = len) (h : ¬DestFits s rd len) :
    Faults (s.finish (s.putPoly rd xs z)) s 4#8 (BitVec.ofNat 32 (max (descBase (s.getN rd)) Config.xmSize)) :=
  faults_of_xmRange (State.putPoly_raise z (hlen ▸ h))

end

theorem descBase_eq (w : Word) : descBase w = w.toNat % 2 ^ 16 := by
  simp [descBase]

theorem descLen_eq (w : Word) : descLen w = w.toNat / 2 ^ 16 := by
  rw [descLen, BitVec.extractLsb'_toNat, Nat.shiftRight_eq_div_pow]
  exact Nat.mod_eq_of_lt (Nat.div_lt_of_lt_mul w.isLt)

/-- Settles O33: the first source is checked first, and PMUL's product is stored once both sources are read. -/
theorem polynomialRangeFaults : Obligations.PolynomialRangeFaults := by
  intro s rd ra rb d
  refine ⟨fun ha => ?_, fun ha => ?_, fun a b ha hb hd => ?_, fun w => ⟨descBase_eq w, descLen_eq w⟩, rfl, rfl, rfl⟩
  · exact ⟨faults_checkSm ha, faults_checkSm ha⟩
  · exact ⟨faults_checkXm ha, faults_checkXm ha, faults_checkXm ha, faults_checkXm ha, faults_checkXm ha⟩
  · rw [exec_pmul_of_holds ha hb]
    exact faults_putPoly _ rfl hd

/-! The lengths of results (42_polynomial.md R212, R218; 44_correction.md R275). -/

theorem length_pder (p : List Ext) : (pder p).length = p.length - 1 := by
  simp [pder]

theorem length_premBy (p q : List Ext) (db : Nat) : (premBy p q db).length = db := by
  have hsteps (iv : Ext) (ks : List Nat) (r : List Ext) : (ks.foldl (premStep q db iv) r).length = r.length := by
    induction ks generalizing r with
    | nil => rfl
    | cons k ks ih => rw [List.foldl_cons, ih, premStep, List.length_mapIdx]
  simp only [premBy, List.length_take, hsteps, List.length_append, List.length_replicate]
  omega

theorem pdeg_eq_none {q : List Ext} (h : ∀ k, coeff q k = 0#10) : pdeg q = none := by
  induction q with
  | nil => rfl
  | cons a q ih =>
    have ha : a = 0#10 := h 0
    simp only [pdeg, ih fun k => h (k + 1), if_pos ha]

/-- The degree is the index of the highest coefficient that is not 0 (42_polynomial.md R212). -/
theorem pdeg_eq_some {q : List Ext} {d : Nat} (hne : coeff q d ≠ 0#10) (hzero : ∀ k, d < k → coeff q k = 0#10) :
    pdeg q = some d := by
  induction q generalizing d with
  | nil => exact absurd rfl hne
  | cons a q ih =>
    cases d with
    | zero =>
      have ha : a ≠ 0#10 := hne
      simp only [pdeg, pdeg_eq_none fun k => hzero (k + 1) k.succ_pos, if_neg ha]
    | succ d => simp only [pdeg, ih hne fun k hk => hzero (k + 1) (Nat.succ_lt_succ hk)]

/-- The positions of R275 are fixed by their order and membership. -/
theorem rootPositions_eq {c : List Ext} {n : Nat} {ps : List Nat} (hn : n ≤ 1023)
    (hsorted : ps.Pairwise (fun i j => i < j))
    (hmem : ∀ i, i ∈ ps ↔ i < n ∧ peval c (betaPow ((1023 - i) % 1023)) = 0#10) : rootPositions c n = ps := by
  refine List.SortedLT.eq_of_mem_iff (List.pairwise_lt_range.filter _).sortedLT hsorted.sortedLT fun i => ?_
  rw [hmem, rootPositions, List.mem_filter, List.mem_range, beq_iff_eq]
  refine and_congr_right fun hi => ?_
  rw [betaNeg, betaPow, Nat.mod_eq_of_lt (hi.trans_le hn)]

/-- Settles O50: a later region is checked once the earlier ones are in range, the destination last. -/
theorem laterRegionRangeFaults : Obligations.LaterRegionRangeFaults := by
  intro s rd ra rb rc d
  refine ⟨fun ha hb => ?_, fun ha => ?_, fun hvar ha hb hc => ?_, fun a ha hd => ?_, fun a ha hd => ?_,
    fun a b ha hb hd => ?_, fun a b db ha hb _ hne hzero hd => ?_, fun c ps hvar hn hc hsorted hmem hd => ?_,
    fun syn c ps hvar hsyn hc hps hpos hd => ?_⟩
  · have hsecond {f : Unit → Except Stop State} : (s.checkXm ra >>= fun _ => s.checkXm rb >>= f) =
        .error (.raise .xmRange (BitVec.ofNat 32 (max (descBase (s.getN rb)) Config.xmSize))) :=
      bind_error_of_ok (State.checkXm_ok.2 ha) (bind_error_of_error (State.checkXm_of_not_fits hb))
    exact ⟨faults_of_xmRange hsecond, faults_of_xmRange hsecond, faults_of_xmRange hsecond,
      fun hvar => faults_of_xmRange (bind_error_of_ok (State.checkVariant_of_ne hvar) hsecond)⟩
  · have hfirst {f : Unit → Except Stop State} := bind_error_of_error (f := f) (State.checkXm_of_not_fits ha)
    refine ⟨faults_checkXm ha, fun hvar hn => ?_, fun hvar => ?_⟩
    · exact faults_of_xmRange (bind_error_of_ok (State.checkVariant_of_ne hvar)
        ((if_neg (Nat.not_lt.2 hn)).trans hfirst))
    · exact faults_of_xmRange (bind_error_of_ok (State.checkVariant_of_ne hvar) hfirst)
  · have hthird {f : Unit → Except Stop State} := bind_error_of_error (f := f) (State.checkXm_of_not_fits hc)
    exact faults_of_xmRange (bind_error_of_ok (State.checkVariant_of_ne hvar)
      (bind_error_of_ok (State.checkXm_ok.2 ha) (bind_error_of_ok (State.checkXm_ok.2 hb) hthird)))
  · rw [exec_pemb_of_holds ha]
    exact faults_putPoly _ (List.length_map _) hd
  · rw [exec_pder_of_holds ha]
    exact faults_putPoly _ (length_pder a) hd
  · rw [exec_pmulx_of_holds d ha hb]
    exact faults_putPoly _ List.length_take hd
  · rw [exec_prem_of_holds ha hb (pdeg_eq_some hne hzero)]
    exact faults_putPoly _ (length_premBy a b db) hd
  · rw [exec_roots_of_holds hvar hn hc, rootPositions_eq hn hsorted hmem]
    exact faults_putPoly _ (List.length_map _) hd
  · rw [exec_forney_of_holds hvar hsyn hc hps (fun p hp => (hpos p hp).1) fun p hp => (hpos p hp).2]
    exact faults_putPoly _ (List.length_map _) hd

end Sys2Proof.Machine
end

/-! The decoder and the encoder (30_encoding.md R111-R123): a word matches a row of the opcode map exactly when it is
the encoding of the fields read from it. -/

section
namespace Sys2Proof

open Laws.Opcode (op)
open Claims

/-! A row's mask and match (R113), against the encoding of the fields read from a word (R111, R112). -/

theorem encF0_opField (w : Word) : encF0 (opField w) = w &&& 0xFC000000#32 := by
  refine BitVec.eq_of_getLsbD_eq fun k hk => ?_
  simp only [encF0, opField, BitVec.getLsbD_append]
  interval_cases k <;> simp

/-- A mask that has every bit of a tests a word for its bits of a and for 0 elsewhere: a word passes iff clearing the
mask's bits outside a leaves it as it is. -/
theorem and_eq_and_iff {w a mask : Word} (ha : a &&& mask = a) :
    w &&& mask = w &&& a ↔ w &&& (a ||| ~~~mask) = w := by
  have hbool : ∀ x y z : Bool, (y && z) = y → ((x && z) = (x && y) ↔ (x && (y || !z)) = x) := by decide
  simp only [BitVec.eq_of_getLsbD_eq_iff, BitVec.getLsbD_and, BitVec.getLsbD_or, BitVec.getLsbD_not]
  refine forall₂_congr fun k hk => ?_
  have hcover : (a.getLsbD k && mask.getLsbD k) = a.getLsbD k := by rw [← BitVec.getLsbD_and, ha]
  simpa [hk] using hbool (w.getLsbD k) _ _ hcover

/-- A word with the OP of a row matches the row iff encoding its fields again, which clears the row's must-be-zero bits,
gives it back. -/
theorem matches_iff {w mask pattern e : Word} {op : BitVec 6} (hop : opField w = op) (hpattern : pattern = encF0 op)
    (hmask : 0xFC000000#32 &&& mask = 0xFC000000#32)
    (he : ∀ k < 32, e.getLsbD k = (w &&& (0xFC000000#32 ||| ~~~mask)).getLsbD k) :
    w &&& mask = pattern ↔ e = w := by
  rw [hpattern, ← hop, encF0_opField, and_eq_and_iff hmask, BitVec.eq_of_getLsbD_eq he]

/-! One lemma for each mask of R117, named after the format and, where the row does not use all of its fields, those it
uses. -/

section
variable {w pattern : Word} {op : BitVec 6} (hop : opField w = op) (hpattern : pattern = encF0 op)
include hop hpattern

theorem matches_F0 : w &&& 0xFFFFFFFF#32 = pattern ↔ encF0 op = w := by
  refine matches_iff hop hpattern rfl fun k _ => ?_
  rw [← hop, encF0_opField]
  rfl

theorem matches_FB : w &&& 0xFC3F0000#32 = pattern ↔ encFB op (condField w) (imm16Field w) = w := by
  refine matches_iff hop hpattern rfl fun k hk => ?_
  simp only [← hop, encFB, opField, condField, imm16Field, BitVec.getLsbD_append]
  interval_cases k <;> simp

theorem matches_FI : w &&& 0xFC7F0000#32 = pattern ↔ encFI op (rdField w) (imm16Field w) = w := by
  refine matches_iff hop hpattern rfl fun k hk => ?_
  simp only [← hop, encFI, opField, rdField, imm16Field, BitVec.getLsbD_append]
  interval_cases k <;> simp

theorem matches_FI_imm10 : w &&& 0xFC7FFC00#32 = pattern ↔
    encFI op (rdField w) ((w.extractLsb' 0 10).setWidth 16) = w := by
  refine matches_iff hop hpattern rfl fun k hk => ?_
  simp only [← hop, encFI, opField, rdField, BitVec.getLsbD_append]
  interval_cases k <;> simp

theorem matches_FI_imm5 : w &&& 0xFC7FFFE0#32 = pattern ↔
    encFI op (rdField w) ((w.extractLsb' 0 5).setWidth 16) = w := by
  refine matches_iff hop hpattern rfl fun k hk => ?_
  simp only [← hop, encFI, opField, rdField, BitVec.getLsbD_append]
  interval_cases k <;> simp

theorem matches_FI_imm2 : w &&& 0xFFFFFFFC#32 = pattern ↔ encFI op 0#3 ((w.extractLsb' 0 2).setWidth 16) = w := by
  refine matches_iff hop hpattern rfl fun k hk => ?_
  simp only [← hop, encFI, opField, BitVec.getLsbD_append]
  interval_cases k <;> simp

theorem matches_FR : w &&& 0xFC01FFFF#32 = pattern ↔ encFR op (rdField w) (raField w) (rbField w) = w := by
  refine matches_iff hop hpattern rfl fun k hk => ?_
  simp only [← hop, encFR, opField, rdField, raField, rbField, BitVec.getLsbD_append]
  interval_cases k <;> simp

theorem matches_FR_rd_ra : w &&& 0xFC0FFFFF#32 = pattern ↔ encFR op (rdField w) (raField w) 0#3 = w := by
  refine matches_iff hop hpattern rfl fun k hk => ?_
  simp only [← hop, encFR, opField, rdField, raField, BitVec.getLsbD_append]
  interval_cases k <;> simp

theorem matches_FR_rd : w &&& 0xFC7FFFFF#32 = pattern ↔ encFR op (rdField w) 0#3 0#3 = w := by
  refine matches_iff hop hpattern rfl fun k hk => ?_
  simp only [← hop, encFR, opField, rdField, BitVec.getLsbD_append]
  interval_cases k <;> simp

theorem matches_FR_ra : w &&& 0xFF8FFFFF#32 = pattern ↔ encFR op 0#3 (raField w) 0#3 = w := by
  refine matches_iff hop hpattern rfl fun k hk => ?_
  simp only [← hop, encFR, opField, raField, BitVec.getLsbD_append]
  interval_cases k <;> simp

theorem matches_FR4 : w &&& 0xFC003FFF#32 = pattern ↔
    encFR4 op (rdField w) (raField w) (rbField w) (rcField w) = w := by
  refine matches_iff hop hpattern rfl fun k hk => ?_
  simp only [← hop, encFR4, opField, rdField, raField, rbField, rcField, BitVec.getLsbD_append]
  interval_cases k <;> simp

theorem matches_FRI : w &&& 0xFC0F0000#32 = pattern ↔ encFRI op (rdField w) (raField w) (imm16Field w) = w := by
  refine matches_iff hop hpattern rfl fun k hk => ?_
  simp only [← hop, encFRI, opField, rdField, raField, imm16Field, BitVec.getLsbD_append]
  interval_cases k <;> simp

theorem matches_FRRI : w &&& 0xFC010000#32 = pattern ↔
    encFRRI op (rdField w) (raField w) (rbField w) (imm16Field w) = w := by
  refine matches_iff hop hpattern rfl fun k hk => ?_
  simp only [← hop, encFRRI, opField, rdField, raField, rbField, imm16Field, BitVec.getLsbD_append]
  interval_cases k <;> simp

end

/-- A row gives its command to the word that is its encoding. -/
theorem row_ok {w mask pattern e : Word} {i : Instr} (hrow : w &&& mask = pattern ↔ e = w) (h : e = w) :
    row w mask pattern i = .ok i := if_pos (hrow.2 h)

/-- LIB, LIE and SETV hold their short immediate in the low bits of FI's. -/
theorem extractLsb'_imm_encFI {n : Nat} (hn : n ≤ 16) (op : BitVec 6) (rd : RegIdx) (imm : BitVec n) :
    (encFI op rd (imm.setWidth 16)).extractLsb' 0 n = imm := by
  ext k hk
  simp only [encFI, BitVec.getElem_extractLsb', BitVec.getLsbD_append, BitVec.getLsbD_setWidth]
  simp [hk, show k < 16 by omega]

/-! Decoding an encoding (R123), constructor by constructor. -/

theorem decode_encode_bc (cond : BitVec 4) (dest : BitVec 16) :
    decode (encode (.bc cond dest)) =
      if (Instr.bc cond dest).wellFormed then .ok (.bc cond dest) else .error .reservedCondition := by
  have hrow := row_ok (i := .bc cond dest) (pattern := 0x0C000000#32) (matches_FB (opField_encFB 0x03#6 cond dest) rfl)
    (by rw [condField_encFB, imm16Field_encFB])
  simp only [decode, encode, opField_encFB, condField_encFB, imm16Field_encFB, hrow]

theorem decode_encode_setv (v : BitVec 2) :
    decode (encode (.setv v)) = if (Instr.setv v).wellFormed then .ok (.setv v) else .error .reservedVariant := by
  have himm := extractLsb'_imm_encFI (by decide) 0x28#6 0#3 v
  have hrow := row_ok (i := .setv v) (pattern := 0xA0000000#32)
    (matches_FI_imm2 (opField_encFI 0x28#6 0#3 (v.setWidth 16)) rfl) (by rw [himm])
  simp only [decode, encode, opField_encFI, himm, hrow]

theorem decode_encode (i : Instr) (hwf : i.wellFormed = true) : decode (encode i) = .ok i := by
  cases i with
  | halt | nop | lrst | lver | selft => rfl
  | bc => rw [decode_encode_bc, if_pos hwf]
  | setv => rw [decode_encode_setv, if_pos hwf]
  | dbnz | lin | lhn =>
    simp only [decode, encode, opField_encFI, rdField_encFI, imm16Field_encFI]
    exact row_ok (matches_FI (opField_encFI ..) rfl) (by rw [rdField_encFI, imm16Field_encFI])
  | lie rd imm =>
    have himm := extractLsb'_imm_encFI (by decide) 0x10#6 rd imm
    simp only [decode, encode, opField_encFI, rdField_encFI, himm]
    exact row_ok (matches_FI_imm10 (opField_encFI ..) rfl) (by rw [rdField_encFI, himm])
  | lib rd imm =>
    have himm := extractLsb'_imm_encFI (by decide) 0x08#6 rd imm
    simp only [decode, encode, opField_encFI, rdField_encFI, himm]
    exact row_ok (matches_FI_imm5 (opField_encFI ..) rfl) (by rw [rdField_encFI, himm])
  | addb | mulb | powb | adde | mule | powe | pevb | peve | pmul | prem | roots =>
    simp only [decode, encode, opField_encFR, rdField_encFR, raField_encFR, rbField_encFR]
    exact row_ok (matches_FR (opField_encFR ..) rfl) (by rw [rdField_encFR, raField_encFR, rbField_encFR])
  | invb | negb | inve | nege | emb | prj | pemb | pder | loc | corr =>
    simp only [decode, encode, opField_encFR, rdField_encFR, raField_encFR]
    exact row_ok (matches_FR_rd_ra (opField_encFR ..) rfl) (by rw [rdField_encFR, raField_encFR])
  | lfb | lfm =>
    simp only [decode, encode, opField_encFR, raField_encFR]
    exact row_ok (matches_FR_ra (opField_encFR ..) rfl) (by rw [raField_encFR])
  | lchk | lres | synd =>
    simp only [decode, encode, opField_encFR, rdField_encFR]
    exact row_ok (matches_FR_rd (opField_encFR ..) rfl) (by rw [rdField_encFR])
  | forney =>
    simp only [decode, encode, opField_encFR4, rdField_encFR4, raField_encFR4, rbField_encFR4, rcField_encFR4]
    exact row_ok (matches_FR4 (opField_encFR4 ..) rfl)
      (by rw [rdField_encFR4, raField_encFR4, rbField_encFR4, rcField_encFR4])
  | naddi | lds | sts | ldx | stx =>
    simp only [decode, encode, opField_encFRI, rdField_encFRI, raField_encFRI, imm16Field_encFRI]
    exact row_ok (matches_FRI (opField_encFRI ..) rfl) (by rw [rdField_encFRI, raField_encFRI, imm16Field_encFRI])
  | pmulx =>
    simp only [decode, encode, opField_encFRRI, rdField_encFRRI, raField_encFRRI, rbField_encFRRI, imm16Field_encFRRI]
    exact row_ok (matches_FRRI (opField_encFRRI ..) rfl)
      (by rw [rdField_encFRRI, raField_encFRRI, rbField_encFRRI, imm16Field_encFRRI])

/-- Settles O1: each word has its command's OP, matches the row of that OP and holds the operands in its fields. -/
theorem encodeThenDecodeGivesTheCommand : Obligations.EncodeThenDecodeGivesTheCommand := decode_encode

/-- A word that is the encoding of a well-formed command decodes to it. -/
theorem decode_of_encode {w : Word} {i : Instr} (hwf : i.wellFormed = true) (h : encode i = w) : decode w = .ok i :=
  h ▸ decode_encode i hwf

/-- Settles O4: each word is the encoding of its command. -/
theorem sampleWordsDecode : Obligations.SampleWordsDecode := by
  refine ⟨?_, ?_, ?_, ?_, ?_, ?_, ?_⟩ <;> exact decode_of_encode (by decide) (by decide)

theorem opField_encode (i : Instr) : opField (encode i) = op i := by
  cases i <;> simp only [encode, op, opField_encF0, opField_encFB, opField_encFI, opField_encFR, opField_encFR4,
    opField_encFRI, opField_encFRRI]

/-! Decoding any word (R123), row by row. -/

/-- d is the answer of the row of w's OP: a command i that w encodes iff w matches the row, or e where i fails the
value checks (R118). -/
def AnsweredByRow (w : Word) (d : Except Illegal Instr) : Prop :=
  ∃ mask pattern i e, (opField w, mask, pattern) ∈ opcodeRows ∧ (w &&& mask = pattern ↔ encode i = w) ∧
    d = if w &&& mask = pattern then if i.wellFormed then .ok i else .error e else .error .mustBeZero

theorem mem_of_lookup {op : BitVec 6} {x : Word × Word} (h : opcodeRows.lookup op = some x) :
    (op, x) ∈ opcodeRows := by
  obtain ⟨l, l', hl, -⟩ := List.lookup_eq_some_iff.1 h
  simp [hl]

section
variable {w mask pattern : Word} {op : BitVec 6} {i : Instr} (hop : opField w = op)
  (hlookup : opcodeRows.lookup op = some (mask, pattern)) (hrow : w &&& mask = pattern ↔ encode i = w)
include hop hlookup hrow

/-- A row without a value check. -/
theorem answeredByRow_row (hwf : i.wellFormed = true) : AnsweredByRow w (row w mask pattern i) :=
  ⟨mask, pattern, i, .mustBeZero, mem_of_lookup (hop ▸ hlookup), hrow, by rw [if_pos hwf, row]⟩

/-- A row with a value check, made where the row gives i. -/
theorem answeredByRow_check {e : Illegal} {d : Except Illegal Instr}
    (hok : row w mask pattern i = .ok i → d = if i.wellFormed then .ok i else .error e)
    (herror : row w mask pattern i = .error .mustBeZero → d = .error .mustBeZero) : AnsweredByRow w d := by
  refine ⟨mask, pattern, i, e, mem_of_lookup (hop ▸ hlookup), hrow, ?_⟩
  split
  · exact hok (if_pos ‹_›)
  · exact herror (if_neg ‹_›)

end

/-- The decoder row by row, in the order of R117: a word has an OP in no row, or the row of its OP answers it. -/
theorem decode_cases (w : Word) :
    ((∀ r ∈ opcodeRows, r.1 ≠ opField w) ∧ decode w = .error .reservedOpcode) ∨ AnsweredByRow w (decode w) := by
  unfold decode
  split <;> rename_i hop
  -- Format F0.
  case h_1 | h_2 | h_34 | h_38 | h_45 => exact .inr (answeredByRow_row hop rfl (matches_F0 hop rfl) rfl)
  -- Format FB: BC, with its value check.
  case h_3 =>
    exact .inr (answeredByRow_check (mask := 0xFC3F0000#32) (pattern := 0x0C000000#32)
      (i := .bc (condField w) (imm16Field w)) hop rfl (matches_FB hop rfl) (fun h => by rw [h]) fun h => by rw [h])
  -- Format FI: DBNZ, LIN and LHN; LIB; LIE; SETV, with its value check.
  case h_4 | h_19 | h_20 => exact .inr (answeredByRow_row hop rfl (matches_FI hop rfl) rfl)
  case h_5 => exact .inr (answeredByRow_row hop rfl (matches_FI_imm5 hop rfl) rfl)
  case h_11 => exact .inr (answeredByRow_row hop rfl (matches_FI_imm10 hop rfl) rfl)
  case h_33 =>
    exact .inr (answeredByRow_check (mask := 0xFFFFFFFC#32) (pattern := 0xA0000000#32)
      (i := .setv (w.extractLsb' 0 2)) hop rfl (matches_FI_imm2 hop rfl) (fun h => by rw [h]) fun h => by rw [h])
  -- Format FR: three registers; rd and ra; rd (LCHK, LRES, SYND); ra (LFB, LFM).
  case h_6 | h_7 | h_9 | h_12 | h_13 | h_15 | h_27 | h_28 | h_29 | h_31 | h_42 =>
    exact .inr (answeredByRow_row hop rfl (matches_FR hop rfl) rfl)
  case h_8 | h_10 | h_14 | h_16 | h_17 | h_18 | h_26 | h_32 | h_41 | h_44 =>
    exact .inr (answeredByRow_row hop rfl (matches_FR_rd_ra hop rfl) rfl)
  case h_37 | h_39 | h_40 => exact .inr (answeredByRow_row hop rfl (matches_FR_rd hop rfl) rfl)
  case h_35 | h_36 => exact .inr (answeredByRow_row hop rfl (matches_FR_ra hop rfl) rfl)
  -- Formats FR4 (FORNEY), FRI (NADDI and the loads and stores) and FRRI (PMULX).
  case h_43 => exact .inr (answeredByRow_row hop rfl (matches_FR4 hop rfl) rfl)
  case h_21 | h_22 | h_23 | h_24 | h_25 => exact .inr (answeredByRow_row hop rfl (matches_FRI hop rfl) rfl)
  case h_30 => exact .inr (answeredByRow_row hop rfl (matches_FRRI hop rfl) rfl)
  -- An OP in no row.
  case h_46 =>
    refine .inl ⟨?_, rfl⟩
    simp only [opcodeRows, List.cons_append, List.nil_append, List.forall_mem_cons, List.not_mem_nil, false_implies,
      implies_true, and_true, ne_comm (b := opField w)]
    and_intros <;> assumption

/-- Settles O2: the word matches a row, so it is the encoding of the command read from it, which passed the checks. -/
theorem decodedWordIsTheEncoding : Obligations.DecodedWordIsTheEncoding := by
  intro w i h
  obtain ⟨-, hd⟩ | ⟨mask, pattern, j, e, -, hrow, hd⟩ := decode_cases w
  · cases h.symm.trans hd
  · rw [h] at hd
    split at hd
    · split at hd
      · cases hd
        exact ⟨‹_›, hrow.1 ‹_›⟩
      · cases hd
    · cases hd

/-! The four cases of R118. -/

/-- Cases 3 and 4: the word has the OP of BC or SETV and a value the command does not have. -/
def ReservedValue (w : Word) : Prop :=
  (opField w = 0x03#6 ∧ 5 ≤ (condField w).toNat) ∨ (opField w = 0x28#6 ∧ w.extractLsb' 0 2 = 3#2)

theorem reservedValue_encode_iff (i : Instr) : ReservedValue (encode i) ↔ i.wellFormed = false := by
  unfold ReservedValue
  rw [opField_encode]
  cases i with
  | bc cond dest => simp [op, encode, Instr.wellFormed]
  | setv v => simp [op, encode, Instr.wellFormed, extractLsb'_imm_encFI]
  | _ => simp [op, Instr.wellFormed]

theorem nodup_opcodes : (opcodeRows.map Prod.fst).Nodup := by decide

theorem illegalWord_iff {w mask pattern : Word} (h : (opField w, mask, pattern) ∈ opcodeRows) :
    IllegalWord w ↔ w &&& mask ≠ pattern ∨ ReservedValue w := by
  constructor
  · rintro (hnone | ⟨r, hr, hop, hne⟩ | hval)
    · exact absurd rfl (hnone _ h)
    · obtain rfl := List.inj_on_of_nodup_map nodup_opcodes hr h hop
      exact .inl hne
    · exact .inr hval
  · rintro (hne | hval)
    · exact .inr (.inl ⟨_, h, rfl, hne⟩)
    · exact .inr (.inr hval)

theorem decode_error_iff (w : Word) : (∃ e, decode w = .error e) ↔ IllegalWord w := by
  obtain ⟨hnone, hd⟩ | ⟨mask, pattern, i, e, hmem, hrow, hd⟩ := decode_cases w
  · exact iff_of_true ⟨_, hd⟩ (.inl hnone)
  · rw [illegalWord_iff hmem, hd]
    by_cases hmatch : w &&& mask = pattern
    · obtain rfl := hrow.1 hmatch
      rw [reservedValue_encode_iff, if_pos hmatch]
      cases i.wellFormed <;> simp [hmatch]
    · exact iff_of_true ⟨_, if_neg hmatch⟩ (.inl hmatch)

end Sys2Proof

namespace Sys2Proof.Machine

open Claims

/-! The fetch of an illegal word (R118, 45_sequencer_data.md R311). -/

section
variable {s u : State} {w : Word}

theorem State.fetch_of_word (hpc : s.pc.toNat < Config.cmSize) (hw : s.cm.read? s.pc.toNat = some w) :
    s.fetch = .ok w :=
  (if_neg (Nat.not_le.2 hpc)).trans (readWord_ok.2 hw)

theorem runCommand_of_illegal {e : Illegal} (hfetch : s.fetch = .ok w) (hd : decode w = .error e) :
    s.runCommand = .next (s.takeFault .illegalCommand w) := by
  simp only [State.runCommand, hfetch, hd]

theorem sequencerStep_of_running (hbusy : s.busy = true) (hstop : s.stopReq = false) :
    s.sequencerStep = s.runCommand := by
  rw [State.sequencerStep, if_pos hbusy, if_neg (by simp [hstop])]

/-- Taking the turn off the host's list changes nothing a fetch looks at. -/
theorem step_of_fetching (h : Fetching s u) :
    step s = u.runCommand ∧ u.pc = s.pc ∧ u.cm = s.cm := by
  obtain ⟨hbusy, hstop, hturn⟩ := h
  rw [step_of_turn hturn]
  obtain ⟨-, rfl⟩ | ⟨rest, -, rfl⟩ := hturn
  · exact ⟨sequencerStep_of_running hbusy hstop, rfl, rfl⟩
  · exact ⟨sequencerStep_of_running hbusy hstop, rfl, rfl⟩

end

/-- Settles O3: the decoder's cases are R118's, and fetching a word it refuses takes the fault. -/
theorem illegalExactlyByTheFourCases : Obligations.IllegalExactlyByTheFourCases := by
  refine ⟨decode_error_iff, fun s u w hfetching hpc hw hillegal => ?_, (decode_error_iff _).1 ⟨_, rfl⟩⟩
  obtain ⟨e, hd⟩ := (decode_error_iff w).2 hillegal
  obtain ⟨hstep, hupc, hucm⟩ := step_of_fetching hfetching
  rw [hstep, runCommand_of_illegal (State.fetch_of_word (hupc ▸ hpc) (hupc ▸ hucm ▸ hw)) hd]
  rfl

/-! BC (30_encoding.md R116, 45_sequencer_data.md R302). -/

section
variable {s : State}

theorem onlyPc_jump (dest : BitVec 16) : OnlyPc s dest (s.jump dest) := by
  simp [OnlyPc, KeepsRegs, KeepsB, KeepsE, KeepsN, KeepsMem, KeepsSm, KeepsXm, KeepsCm, KeepsPass, KeepsResult,
    KeepsControl, KeepsFaultRegs, KeepsRun, KeepsModel]

theorem onlyPc_advance : OnlyPc s (s.pc + 1#16) s.advance := onlyPc_jump _

/-- BC with a condition below 5 changes PC only. -/
theorem exec_bc_completes {cond : BitVec 4} (dest : BitVec 16) (hcond : cond.toNat < 5) :
    Completes (exec (.bc cond dest) s) (OnlyPc s (if s.taken cond = true then dest else s.pc + 1#16)) := by
  simp only [exec, execBc, if_neg (Nat.not_le.2 hcond)]
  split
  · exact ⟨_, rfl, onlyPc_jump dest⟩
  · exact ⟨_, rfl, onlyPc_advance⟩

end

/-- Settles O13: each condition by the flag it tests, and conditions from 5 up by the decoder's value check. -/
theorem branchTakesItsCondition : Obligations.BranchTakesItsCondition := by
  intro s dest
  refine ⟨exec_bc_completes dest (by decide), exec_bc_completes dest (by decide), ?_,
    exec_bc_completes dest (by decide), ?_, fun cond hcond => ?_⟩
  · simpa [State.taken] using exec_bc_completes (cond := 2#4) (s := s) dest (by decide)
  · simpa [State.taken] using exec_bc_completes (cond := 4#4) (s := s) dest (by decide)
  · rw [decode_encode_bc, if_neg (by simpa [Instr.wellFormed] using hcond)]

end Sys2Proof.Machine
end

/-! GF(32): inverses and powers (40_gf32.md R153, R154), and the six commands (R155-R160). -/

section
namespace Sys2Proof.Machine

open Sys2Proof.Claims

/-! The subfield GF(32) of GF(1024) (41_gf1024.md R185, R196). A power in GF(32) is one in GF(1024), where
multiplication by an element is a member of a monoid. -/

theorem embed_eq_extOf (a : Sym) : embed a = extOf a 0#5 :=
  BitVec.setWidth_eq_append (by decide)

@[simp] theorem embed_one : embed 1#5 = 1#10 := rfl

theorem embed_injective : Function.Injective embed := fun a b h => by
  rw [← lowCoord_extOf a 0#5, ← embed_eq_extOf, h, embed_eq_extOf, lowCoord_extOf]

theorem embed_gf32Mul (a b : Sym) : embed (gf32Mul a b) = gf1024Mul (embed a) (embed b) := by
  simp [embed_eq_extOf, gf1024Mul]

theorem mulBy_embed_gf32Mul (a b : Sym) : mulBy (embed (gf32Mul a b)) = mulBy (embed a) * mulBy (embed b) := by
  rw [embed_gf32Mul, mulBy_gf1024Mul]

theorem mulBy_embed_injective : Function.Injective fun a => mulBy (embed a) :=
  mulBy_injective.comp embed_injective

theorem mulBy_embed_gf32Pow (a : Sym) (n : Nat) : mulBy (embed (gf32Pow a n)) = mulBy (embed a) ^ n := by
  rw [gf32Pow, map_powLoop (φ := fun a => mulBy (embed a)) mulBy_embed_gf32Mul Nat.lt_log2_self, embed_one, mulBy_one,
    one_mul]

/-! Powers and inverses (40_gf32.md R153, R154). -/

@[simp] theorem gf32Pow_zero (a : Sym) : gf32Pow a 0 = 1#5 := rfl

theorem gf32Pow_succ (a : Sym) (n : Nat) : gf32Pow a (n + 1) = gf32Mul (gf32Pow a n) a :=
  mulBy_embed_injective (by simp only [mulBy_embed_gf32Mul, mulBy_embed_gf32Pow, pow_succ])

/-- The order of every element other than 0 divides 31, the number of such elements. -/
theorem gf32Pow_thirtyOne : ∀ a : Sym, a ≠ 0#5 → gf32Pow a 31 = 1#5 := by decide +kernel

theorem gf32Pow_mod {a : Sym} (ha : a ≠ 0#5) (n : Nat) : gf32Pow a n = gf32Pow a (n % 31) := by
  have hone : mulBy (embed a) ^ 31 = 1 := by
    rw [← mulBy_embed_gf32Pow, gf32Pow_thirtyOne a ha, embed_one, mulBy_one]
  apply mulBy_embed_injective
  simp only [mulBy_embed_gf32Pow]
  exact pow_eq_pow_mod n hone

theorem gf32Mul_gf32Inv {a : Sym} (ha : a ≠ 0#5) : gf32Mul a (gf32Inv a) = 1#5 := by
  rw [gf32Mul_comm, gf32Inv, ← gf32Pow_succ, gf32Pow_thirtyOne a ha]

theorem eq_gf32Inv_of_gf32Mul_eq_one {a y : Sym} (ha : a ≠ 0#5) (h : gf32Mul a y = 1#5) : y = gf32Inv a :=
  calc
    y = gf32Mul y (gf32Mul a (gf32Inv a)) := by rw [gf32Mul_gf32Inv ha, gf32Mul_one]
    _ = gf32Mul (gf32Mul a y) (gf32Inv a) := by rw [← gf32Mul_assoc, gf32Mul_comm y a]
    _ = gf32Inv a := by rw [h, gf32Mul_comm, gf32Mul_one]

theorem gf32Inv_ne_zero {a : Sym} (ha : a ≠ 0#5) : gf32Inv a ≠ 0#5 := fun hzero => by
  have hone := gf32Mul_gf32Inv ha
  rw [hzero, gf32Mul_zero] at hone
  exact absurd hone (by decide)

/-- Settles O20: multiplication's laws are those of its basis, and a·inv(a) = a^31 = 1. -/
theorem gf32FieldLaws : Obligations.Gf32FieldLaws := fun a b c =>
  ⟨BitVec.xor_assoc a b c, gf32Mul_xor_right a b c, gf32Mul_gf32Inv, gf32Mul_assoc a b c, gf32Mul_comm a b⟩

/-- Settles O21, in the monoid of multiplications, where repeated squaring is the power. -/
theorem gf32PowerLaws : Obligations.Gf32PowerLaws := fun a n =>
  ⟨gf32Pow_zero a, gf32Pow_succ a n, by rw [gf32Pow_succ, gf32Mul_zero], fun ha => gf32Pow_mod ha n⟩

/-! The commands (40_gf32.md R155-R160). -/

section
variable {s : State} {rd ra : RegIdx}

theorem writesB_putB (x : Sym) : WritesB s rd x (s.putB rd x) := by
  refine ⟨by simp [State.putB], fun r hr => by simp [State.putB, State.getB_setB_other s x hr], ?_, ?_⟩
  · simp [State.putB, zeroOf]
  · simp [State.putB, KeepsE, KeepsN, KeepsMem, KeepsSm, KeepsXm, KeepsCm, KeepsPass, KeepsResult, KeepsControl,
      KeepsFaultRegs, KeepsRun, KeepsModel]

theorem completes_putB (x : Sym) : Completes (.next (s.putB rd x)) (WritesB s rd x) := ⟨_, rfl, writesB_putB x⟩

/-- INVB clears Z outright, as the inverse is not 0. -/
theorem exec_invb_of_ne_zero (ha : s.getB ra ≠ 0#5) :
    exec (.invb rd ra) s = .next (s.putB rd (gf32Inv (s.getB ra))) := by
  have hz : zeroOf (gf32Inv (s.getB ra)) = false := by simpa [zeroOf] using gf32Inv_ne_zero ha
  simp only [exec, execInvb, if_neg ha, State.finish_ok, State.putB, hz]

theorem exec_invb_of_zero (ha : s.getB ra = 0#5) : exec (.invb rd ra) s = .next (s.takeFault .divZero 0#32) := by
  simp only [exec, execInvb, if_pos ha, State.finish_raise]

end

/-- Settles O19: a·inv(a) = 1, and any y with a·y = 1 is inv(a). -/
theorem invbInvertsOrFaults : Obligations.InvbInvertsOrFaults := by
  refine fun s rd ra => ⟨fun ha => ?_, exec_invb_of_zero⟩
  rw [exec_invb_of_ne_zero ha]
  exact ⟨_, gf32Mul_gf32Inv ha, fun y => eq_gf32Inv_of_gf32Mul_eq_one ha, completes_putB _⟩

/-- Settles O18: each command ends in putB, and the four products of powers of z are computed. -/
theorem gf32Commands : Obligations.Gf32Commands := fun s rd ra rb imm =>
  ⟨completes_putB _, completes_putB _, completes_putB _, completes_putB _, completes_putB _,
    (gf32Mul_comm _ _).trans (gf32Mul_one imm), by decide⟩

end Sys2Proof.Machine
end

/-! GF(1024): the field laws, inverses and powers (41_gf1024.md R184-R186, R196, R197), and the eight commands
(R188-R195). -/

section
namespace Sys2Proof.Machine

open Sys2Proof.Claims

/-! Addition is XOR, coordinate by coordinate (41_gf1024.md R180, R182). -/

@[simp] theorem lowCoord_xor (x y : Ext) : lowCoord (x ^^^ y) = lowCoord x ^^^ lowCoord y := BitVec.extractLsb'_xor

@[simp] theorem highCoord_xor (x y : Ext) : highCoord (x ^^^ y) = highCoord x ^^^ highCoord y := BitVec.extractLsb'_xor

theorem extOf_xor (a b c d : Sym) : extOf (a ^^^ b) (c ^^^ d) = extOf a c ^^^ extOf b d := BitVec.xor_append.symm

theorem gf1024Mul_xor_right (x y z : Ext) : gf1024Mul x (y ^^^ z) = gf1024Mul x y ^^^ gf1024Mul x z := by
  simp only [gf1024Mul, ← extOf_xor, lowCoord_xor, highCoord_xor, gf32Mul_xor_right]
  congr 1
  · ac_rfl
  · ac_rfl

theorem gf1024Mul_xor_left (x y z : Ext) : gf1024Mul (x ^^^ y) z = gf1024Mul x z ^^^ gf1024Mul y z := by
  simp only [gf1024Mul_comm _ z, gf1024Mul_xor_right]

/-- The characteristic is 2: the mixed terms of a square cancel. -/
theorem gf1024Mul_self_xor (x y : Ext) :
    gf1024Mul (x ^^^ y) (x ^^^ y) = gf1024Mul x x ^^^ gf1024Mul y y :=
  calc gf1024Mul (x ^^^ y) (x ^^^ y)
    _ = gf1024Mul x x ^^^ (gf1024Mul x y ^^^ gf1024Mul x y) ^^^ gf1024Mul y y := by
      rw [gf1024Mul_xor_right, gf1024Mul_xor_left, gf1024Mul_xor_left, gf1024Mul_comm y x]
      ac_rfl
    _ = gf1024Mul x x ^^^ gf1024Mul y y := by simp

/-! The conjugate and the norm (41_gf1024.md R184, R197). -/

/-- The conjugate (a0 + a1) + a1·ζ of a0 + a1·ζ: the product of the two is the norm (R184), and it is the 32nd power
(R197). -/
def gf1024Conj (x : Ext) : Ext := extOf (lowCoord x ^^^ highCoord x) (highCoord x)

theorem gf1024Conj_xor (x y : Ext) : gf1024Conj (x ^^^ y) = gf1024Conj x ^^^ gf1024Conj y := by
  simp only [gf1024Conj, ← extOf_xor, lowCoord_xor, highCoord_xor]
  congr 1
  ac_rfl

theorem gf1024Conj_gf1024Conj (x : Ext) : gf1024Conj (gf1024Conj x) = x := by
  simp [gf1024Conj]

theorem gf1024Mul_gf1024Conj (x : Ext) : gf1024Mul x (gf1024Conj x) = embed (gf1024Norm x) := by
  simp [gf1024Mul, gf1024Conj, gf1024Norm, gf32Mul_xor_right, embed_eq_extOf, gf32Mul_comm (highCoord x) (lowCoord x)]

theorem gf1024Inv_eq_gf1024Mul (x : Ext) : gf1024Inv x = gf1024Mul (gf1024Conj x) (embed (gf32Inv (gf1024Norm x))) := by
  simp [gf1024Inv, gf1024Mul, gf1024Conj, embed_eq_extOf]

/-! Inverses (41_gf1024.md R184). -/

/-- Elements other than 0 are powers of β, and so is their product. -/
theorem gf1024Mul_ne_zero {x y : Ext} (hx : x ≠ 0#10) (hy : y ≠ 0#10) : gf1024Mul x y ≠ 0#10 := by
  obtain ⟨i, -, rfl⟩ := betaPow_surjOn (by simpa using hx)
  obtain ⟨j, -, rfl⟩ := betaPow_surjOn (by simpa using hy)
  exact betaPow_add i j ▸ betaPow_ne_zero (i + j)

theorem gf1024Conj_ne_zero {x : Ext} (hx : x ≠ 0#10) : gf1024Conj x ≠ 0#10 := fun hzero => hx <|
  (gf1024Conj_gf1024Conj x).symm.trans (congrArg gf1024Conj hzero)

theorem gf1024Norm_ne_zero {x : Ext} (hx : x ≠ 0#10) : gf1024Norm x ≠ 0#5 := fun hzero =>
  gf1024Mul_ne_zero hx (gf1024Conj_ne_zero hx) (by rw [gf1024Mul_gf1024Conj, hzero]; rfl)

theorem gf1024Mul_gf1024Inv {x : Ext} (hx : x ≠ 0#10) : gf1024Mul x (gf1024Inv x) = 1#10 := by
  rw [gf1024Inv_eq_gf1024Mul, ← gf1024Mul_assoc, gf1024Mul_gf1024Conj, ← embed_gf32Mul,
    gf32Mul_gf32Inv (gf1024Norm_ne_zero hx), embed_one]

theorem gf1024Inv_ne_zero {x : Ext} (hx : x ≠ 0#10) : gf1024Inv x ≠ 0#10 := fun hzero => by
  have hone := gf1024Mul_gf1024Inv hx
  rw [hzero, gf1024Mul_zero] at hone
  exact absurd hone (by decide)

theorem mulBy_mul_mulBy_eq_one_iff (x y : Ext) : mulBy x * mulBy y = 1 ↔ gf1024Mul x y = 1#10 := by
  rw [← mulBy_gf1024Mul, ← mulBy_one, mulBy_injective.eq_iff]

theorem eq_gf1024Inv_of_gf1024Mul_eq_one {x y : Ext} (hx : x ≠ 0#10) (h : gf1024Mul x y = 1#10) :
    y = gf1024Inv x :=
  mulBy_injective <| left_inv_eq_right_inv
    ((mulBy_mul_mulBy_eq_one_iff y x).2 (gf1024Mul_comm x y ▸ h))
    ((mulBy_mul_mulBy_eq_one_iff x _).2 (gf1024Mul_gf1024Inv hx))

/-- Settles O25: products by coordinates, and x·inv(x) = embed(norm x·inv(norm x)). -/
theorem gf1024FieldLaws : Obligations.Gf1024FieldLaws :=
  ⟨fun a b => (embed_gf32Mul a b).symm, fun _ => gf1024Mul_gf1024Inv, fun x y z =>
    ⟨BitVec.xor_assoc x y z, gf1024Mul_xor_right x y z, gf1024Mul_assoc x y z, gf1024Mul_comm x y⟩⟩

/-! Powers (41_gf1024.md R186, R197). -/

@[simp] theorem gf1024Pow_zero (x : Ext) : gf1024Pow x 0 = 1#10 := rfl

theorem gf1024Pow_succ (x : Ext) (n : Nat) : gf1024Pow x (n + 1) = gf1024Mul (gf1024Pow x n) x :=
  mulBy_injective (by simp only [mulBy_gf1024Mul, mulBy_gf1024Pow, pow_succ])

@[simp] theorem gf1024Pow_one (x : Ext) : gf1024Pow x 1 = x := by
  rw [gf1024Pow_succ, gf1024Pow_zero, gf1024Mul_comm, gf1024Mul_one]

theorem gf1024Pow_mul_two (x : Ext) (n : Nat) :
    gf1024Pow x (n * 2) = gf1024Mul (gf1024Pow x n) (gf1024Pow x n) :=
  mulBy_injective (by simp only [mulBy_gf1024Mul, mulBy_gf1024Pow, pow_mul, pow_two])

/-- Squaring is additive, so every 2^k-th power is. -/
theorem gf1024Pow_two_pow_xor (x y : Ext) (k : Nat) :
    gf1024Pow (x ^^^ y) (2 ^ k) = gf1024Pow x (2 ^ k) ^^^ gf1024Pow y (2 ^ k) := by
  induction k with
  | zero => simp
  | succ k ih => rw [pow_succ, gf1024Pow_mul_two, ih, gf1024Mul_self_xor, ← gf1024Pow_mul_two, ← gf1024Pow_mul_two]

/-- Both sides are additive, so the ten one-bit elements decide. -/
theorem gf1024Pow_thirtyTwo (x : Ext) : gf1024Pow x 32 = gf1024Conj x := by
  induction x using bitVec_xor_induction with
  | zero => decide +kernel
  | basis i hi =>
    exact (by decide +kernel : ∀ i < 10, gf1024Pow (BitVec.twoPow 10 i) 32 = gf1024Conj (BitVec.twoPow 10 i)) i hi
  | xor x y hx hy =>
    calc gf1024Pow (x ^^^ y) 32
      _ = gf1024Pow x 32 ^^^ gf1024Pow y 32 := gf1024Pow_two_pow_xor x y 5
      _ = gf1024Conj (x ^^^ y) := by rw [hx, hy, gf1024Conj_xor]

theorem gf1024Conj_eq_self_iff (x : Ext) : gf1024Conj x = x ↔ ∃ b : Sym, x = embed b := by
  constructor
  · intro h
    have hhigh : highCoord x = 0#5 := by simpa [gf1024Conj] using congrArg lowCoord h
    exact ⟨lowCoord x, by rw [embed_eq_extOf, ← hhigh, extOf_lowCoord_highCoord]⟩
  · rintro ⟨b, rfl⟩
    simp [gf1024Conj, embed_eq_extOf]

/-- Settles O26: the 32nd power is additive, and is the conjugate on the one-bit elements. -/
theorem frobeniusIsConjugation : Obligations.FrobeniusIsConjugation := fun x =>
  ⟨gf1024Pow_thirtyTwo x, gf1024Pow_thirtyTwo x ▸ gf1024Conj_eq_self_iff x⟩

/-! The commands (41_gf1024.md R188-R195). -/

section
variable {s : State} {rd ra : RegIdx}

theorem writesE_putE (x : Ext) : WritesE s rd x (s.putE rd x) := by
  refine ⟨by simp [State.putE], fun r hr => by simp [State.putE, State.getE_setE_other s x hr], ?_, ?_⟩
  · simp [State.putE, zeroOf]
  · simp [State.putE, KeepsB, KeepsN, KeepsMem, KeepsSm, KeepsXm, KeepsCm, KeepsPass, KeepsResult, KeepsControl,
      KeepsFaultRegs, KeepsRun, KeepsModel]

theorem completes_putE (x : Ext) : Completes (.next (s.putE rd x)) (WritesE s rd x) := ⟨_, rfl, writesE_putE x⟩

/-- INVE clears Z outright, as the inverse is not 0. -/
theorem exec_inve_of_ne_zero (ha : s.getE ra ≠ 0#10) :
    exec (.inve rd ra) s = .next (s.putE rd (gf1024Inv (s.getE ra))) := by
  have hz : zeroOf (gf1024Inv (s.getE ra)) = false := by simpa [zeroOf] using gf1024Inv_ne_zero ha
  simp only [exec, execInve, if_neg ha, State.finish_ok, State.putE, hz]

theorem exec_inve_of_zero (ha : s.getE ra = 0#10) : exec (.inve rd ra) s = .next (s.takeFault .divZero 0#32) := by
  simp only [exec, execInve, if_pos ha, State.finish_raise]

theorem exec_emb : exec (.emb rd ra) s = .next (s.putE rd (0#5 ++ s.getB ra)) :=
  congrArg (fun x => Host.Outcome.next (s.putE rd x)) (embed_eq_extOf (s.getB ra))

theorem exec_prj_of_base (ha : highCoord (s.getE ra) = 0#5) :
    exec (.prj rd ra) s = .next (s.putB rd (lowCoord (s.getE ra))) := by
  simp only [exec, execPrj, if_neg (not_not.2 ha), State.finish_ok]

theorem exec_prj_of_not_base (ha : highCoord (s.getE ra) ≠ 0#5) :
    exec (.prj rd ra) s = .next (s.takeFault .notInBase ((s.getE ra).setWidth 32)) := by
  simp only [exec, execPrj, if_pos ha, State.finish_raise]

end

/-- Settles O23: x·inv(x) = 1, and any y with x·y = 1 is inv(x). -/
theorem inveInvertsOrFaults : Obligations.InveInvertsOrFaults := by
  refine fun s rd ra => ⟨fun ha => ?_, exec_inve_of_zero⟩
  rw [exec_inve_of_ne_zero ha]
  exact ⟨_, gf1024Mul_gf1024Inv ha, fun y => eq_gf1024Inv_of_gf1024Mul_eq_one ha, completes_putE _⟩

/-- Settles O24, by the two branches of PRJ. -/
theorem prjProjectsOrFaults : Obligations.PrjProjectsOrFaults := by
  refine fun s rd ra => ⟨fun ha => ?_, fun ha => ?_⟩
  · rw [exec_prj_of_base ha]
    exact completes_putB _
  · rw [exec_prj_of_not_base ha, ← BitVec.ofNat_toNat]
    rfl

/-- ζ·embed(b) has low coordinate 0 and high coordinate b (41_gf1024.md R181, R185). -/
theorem gf1024Mul_zeta_embed (b : Sym) : gf1024Mul 0x020#10 (embed b) = extOf 0#5 b := by
  have hzeta : (0x020#10 : Ext) = extOf 0#5 1#5 := rfl
  simp [gf1024Mul, hzeta, embed_eq_extOf, gf32Mul_comm 1#5]

/-- Settles O22: each command ends in putE; ζ² = ζ + 1 is computed. -/
theorem gf1024Commands : Obligations.Gf1024Commands := fun s rd ra rb imm =>
  ⟨completes_putE _, completes_putE _, completes_putE _, completes_putE _, completes_putE _,
    exec_emb ▸ completes_putE _, fun b => ⟨embed_eq_extOf b, gf1024Mul_zeta_embed b⟩, by decide,
    fun x n => ⟨gf1024Pow_zero x, gf1024Pow_succ x n⟩⟩

end Sys2Proof.Machine
end

/-! Polynomials: coefficients, evaluation and division (42_polynomial.md R210-R212, R218, R221), and the seven commands
(R213-R219). -/

section
namespace Sys2Proof.Machine

open Sys2Proof.Claims

/-! Sums in GF(1024). -/

@[simp] theorem zero_gf1024Mul (x : Ext) : gf1024Mul 0#10 x = 0#10 :=
  (gf1024Mul_comm 0#10 x).trans (gf1024Mul_zero x)

@[simp] theorem xorSum_nil : xorSum [] = 0#10 := rfl

@[simp] theorem xorSum_cons (y : Ext) (ys : List Ext) : xorSum (y :: ys) = y ^^^ xorSum ys := rfl

theorem xorSum_concat (ys : List Ext) (y : Ext) : xorSum (ys ++ [y]) = xorSum ys ^^^ y := by
  induction ys with
  | nil => simp
  | cons z ys ih => simp [ih, BitVec.xor_assoc]

theorem xorSum_eq_zero {ys : List Ext} (h : ∀ y ∈ ys, y = 0#10) : xorSum ys = 0#10 := by
  induction ys with
  | nil => rfl
  | cons y ys ih =>
    obtain ⟨hy, hys⟩ := List.forall_mem_cons.1 h
    simp [hy, ih hys]

theorem xorSum_map_xor {α : Type} (f g : α → Ext) (ks : List α) :
    xorSum (ks.map fun k => f k ^^^ g k) = xorSum (ks.map f) ^^^ xorSum (ks.map g) := by
  induction ks with
  | nil => simp
  | cons k ks ih =>
    simp only [List.map_cons, xorSum_cons, ih]
    ac_rfl

theorem gf1024Mul_xorSum_map {α : Type} (c : Ext) (f : α → Ext) (ks : List α) :
    gf1024Mul c (xorSum (ks.map f)) = xorSum (ks.map fun k => gf1024Mul c (f k)) := by
  induction ks with
  | nil => exact gf1024Mul_zero c
  | cons k ks ih => simp only [List.map_cons, xorSum_cons, gf1024Mul_xor_right, ih]

theorem xorSum_range_succ (f : Nat → Ext) (n : Nat) :
    xorSum ((List.range (n + 1)).map f) = f 0 ^^^ xorSum ((List.range n).map fun k => f (k + 1)) := by
  rw [List.range_succ_eq_map, List.map_cons, List.map_map, xorSum_cons]
  rfl

/-! Coefficients. -/

@[simp] theorem coeff_nil (k : Nat) : coeff [] k = 0#10 := rfl

@[simp] theorem coeff_cons_zero (a : Ext) (p : List Ext) : coeff (a :: p) 0 = a := rfl

@[simp] theorem coeff_cons_succ (a : Ext) (p : List Ext) (k : Nat) : coeff (a :: p) (k + 1) = coeff p k := rfl

theorem coeff_of_length_le {p : List Ext} {k : Nat} (h : p.length ≤ k) : coeff p k = 0#10 :=
  List.getD_eq_default p _ h

theorem coeff_of_lt_length {p : List Ext} {k : Nat} (h : k < p.length) : coeff p k = p[k] :=
  List.getD_eq_getElem p _ h

theorem coeff_append_left {p q : List Ext} {k : Nat} (h : k < p.length) : coeff (p ++ q) k = coeff p k :=
  List.getD_append p q _ k h

theorem coeff_append_right {p q : List Ext} {k : Nat} (h : p.length ≤ k) : coeff (p ++ q) k = coeff q (k - p.length) :=
  List.getD_append_right p q _ k h

theorem coeff_append_zeros (p : List Ext) (n k : Nat) : coeff (p ++ List.replicate n 0#10) k = coeff p k := by
  obtain hk | hk := Nat.lt_or_ge k p.length
  · exact coeff_append_left hk
  · rw [coeff_append_right hk, coeff_of_length_le hk, coeff, List.getD_eq_getElem?_getD,
      List.getElem?_getD_replicate_default_eq]

theorem coeff_take (p : List Ext) (n k : Nat) : coeff (p.take n) k = if k < n then coeff p k else 0#10 := by
  simp only [coeff, List.getD_eq_getElem?_getD, List.getElem?_take]
  split
  · rfl
  · rfl

theorem coeff_map_range (f : Nat → Ext) (n k : Nat) :
    coeff ((List.range n).map f) k = if k < n then f k else 0#10 := by
  by_cases hk : k < n
  · rw [if_pos hk, coeff_of_lt_length (by simpa), List.getElem_map, List.getElem_range]
  · rw [if_neg hk, coeff_of_length_le (by simpa using hk)]

theorem coeff_map_embed (a : List Sym) (k : Nat) : coeff (a.map embed) k = embed (a.getD k 0#5) :=
  List.getD_map a 0#5 embed

/-- R212 bounds both indices of a term; only i <= k matters, as a coefficient beyond q is 0. -/
theorem coeff_pmul (p q : List Ext) (k : Nat) :
    coeff (pmul p q) k =
      xorSum ((List.range p.length).map fun i => if i ≤ k then gf1024Mul (coeff p i) (coeff q (k - i)) else 0#10) := by
  have hbeyond (hk : q.length = 0 ∨ p.length + q.length ≤ k + 1) :
      xorSum ((List.range p.length).map fun i => if i ≤ k then gf1024Mul (coeff p i) (coeff q (k - i)) else 0#10) =
        0#10 := by
    refine xorSum_eq_zero (List.forall_mem_map.2 fun i hi => ?_)
    have hi : i < p.length := List.mem_range.1 hi
    rw [coeff_of_length_le (p := q) (by omega), gf1024Mul_zero, ite_self]
  unfold pmul
  by_cases hempty : p.length = 0 ∨ q.length = 0
  · rw [if_pos hempty, coeff_nil]
    obtain hp | hq := hempty
    · rw [hp]
      rfl
    · rw [hbeyond (.inl hq)]
  · rw [if_neg hempty, coeff_map_range]
    by_cases hk : k < p.length + q.length - 1
    · rw [if_pos hk]
      congr 2
      funext i
      by_cases hq : k - i < q.length
      · simp only [hq, and_true]
      · simp only [hq, and_false, coeff_of_length_le (Nat.le_of_not_lt hq), gf1024Mul_zero, ite_self]
    · rw [if_neg hk, hbeyond (by omega)]

/-- (a + x·p)·q = x·(p·q) + a·q. -/
theorem coeff_pmul_cons (a : Ext) (p q : List Ext) (k : Nat) :
    coeff (pmul (a :: p) q) k = coeff (0#10 :: pmul p q) k ^^^ gf1024Mul a (coeff q k) := by
  rw [coeff_pmul, List.length_cons, xorSum_range_succ, BitVec.xor_comm]
  cases k with
  | zero => simp [xorSum_eq_zero]
  | succ k => simp [coeff_pmul]

/-- (p + c·x^n)·q = p·q + c·x^n·q for p of n coefficients. -/
theorem coeff_pmul_concat (p q : List Ext) (c : Ext) (k : Nat) :
    coeff (pmul (p ++ [c]) q) k = coeff (pmul p q) k ^^^
      if p.length ≤ k then gf1024Mul c (coeff q (k - p.length)) else 0#10 := by
  have hc : coeff (p ++ [c]) p.length = c := by simp [coeff_append_right]
  rw [coeff_pmul, coeff_pmul, List.length_append, List.length_singleton, List.range_succ, List.map_append,
    List.map_singleton, xorSum_concat, hc]
  congr 2
  refine List.map_congr_left fun i hi => ?_
  rw [coeff_append_left (List.mem_range.1 hi)]

/-! Evaluation (42_polynomial.md R211, R221). -/

/-- The value is the sum of R214 and R215, taken over any range that covers the coefficients. -/
theorem peval_eq_xorSum_of_length_le {p : List Ext} {n : Nat} (x : Ext) (h : p.length ≤ n) :
    peval p x = xorSum ((List.range n).map fun k => gf1024Mul (coeff p k) (gf1024Pow x k)) := by
  induction p generalizing n with
  | nil => exact (xorSum_eq_zero (List.forall_mem_map.2 fun k _ => zero_gf1024Mul _)).symm
  | cons a p ih =>
    obtain _ | n := n
    · simp at h
    rw [xorSum_range_succ, peval, ih (Nat.le_of_succ_le_succ h), gf1024Mul_comm, gf1024Mul_xorSum_map, BitVec.xor_comm]
    simp only [coeff_cons_zero, coeff_cons_succ, gf1024Pow_zero, gf1024Mul_one, gf1024Pow_succ]
    congr 3
    funext k
    rw [gf1024Mul_comm, gf1024Mul_assoc]

/-- Evaluation is linear: a list that is q + c·r coefficient by coefficient has that value. -/
theorem peval_eq_of_coeff {p q r : List Ext} {c : Ext} (h : ∀ k, coeff p k = coeff q k ^^^ gf1024Mul c (coeff r k))
    (x : Ext) : peval p x = peval q x ^^^ gf1024Mul c (peval r x) := by
  let n := p.length + q.length + r.length
  rw [peval_eq_xorSum_of_length_le (n := n) x (by omega), peval_eq_xorSum_of_length_le (p := q) (n := n) x (by omega),
    peval_eq_xorSum_of_length_le (p := r) (n := n) x (by omega), gf1024Mul_xorSum_map, ← xorSum_map_xor]
  simp only [h, gf1024Mul_xor_left, gf1024Mul_assoc]

theorem peval_pmul (p q : List Ext) (x : Ext) : peval (pmul p q) x = gf1024Mul (peval p x) (peval q x) := by
  induction p with
  | nil => exact (zero_gf1024Mul _).symm
  | cons a p ih =>
    calc peval (pmul (a :: p) q) x
      _ = gf1024Mul (peval (pmul p q) x) x ^^^ 0#10 ^^^ gf1024Mul a (peval q x) :=
        peval_eq_of_coeff (coeff_pmul_cons a p q) x
      _ = gf1024Mul (gf1024Mul (peval p x) x) (peval q x) ^^^ gf1024Mul a (peval q x) := by
        rw [ih, BitVec.xor_zero, gf1024Mul_assoc, gf1024Mul_comm (peval q x), ← gf1024Mul_assoc]
      _ = gf1024Mul (peval (a :: p) x) (peval q x) := (gf1024Mul_xor_left _ _ _).symm

theorem peval_zipWith_xor {p q : List Ext} (h : p.length = q.length) (x : Ext) :
    peval (List.zipWith (fun u v => u ^^^ v) p q) x = peval p x ^^^ peval q x := by
  induction p generalizing q with
  | nil => simp [List.eq_nil_of_length_eq_zero h.symm, peval]
  | cons a p ih =>
    obtain _ | ⟨b, q⟩ := q
    · simp at h
    · rw [List.zipWith_cons_cons, peval, ih (Nat.succ.inj h), gf1024Mul_xor_left, peval, peval]
      ac_rfl

/-- Settles O34, by a product's first coefficient: (a + x·p)·q = x·(p·q) + a·q. -/
theorem evaluationIsAHomomorphism : Obligations.EvaluationIsAHomomorphism := fun a b x =>
  ⟨peval_pmul a b x, fun h => peval_zipWith_xor h x⟩

/-! Division (42_polynomial.md R218). -/

section
variable {q : List Ext} {db : Nat}

/-- A division step takes c·x^n·q from r, with c the quotient's coefficient: R218 bounds the index by n + db, beyond
which q is 0. -/
theorem coeff_premStep (hzero : ∀ k, db < k → coeff q k = 0#10) (iv : Ext) (r : List Ext) (n i : Nat) :
    coeff (premStep q db iv r (n + db)) i = coeff r i ^^^
      if n ≤ i then gf1024Mul (gf1024Mul (coeff r (n + db)) iv) (coeff q (i - n)) else 0#10 := by
  obtain hi | hi := Nat.lt_or_ge i r.length
  · rw [premStep, coeff_of_lt_length (by simpa using hi), List.getElem_mapIdx, coeff_of_lt_length hi]
    simp only [Nat.add_sub_cancel]
    by_cases hn : n ≤ i
    · by_cases hk : i ≤ n + db
      · simp [hn, hk]
      · simp [hn, hk, hzero (i - n) (by omega)]
    · simp [hn]
  · have hterm : gf1024Mul (gf1024Mul (coeff r (n + db)) iv) (coeff q (i - n)) = 0#10 := by
      by_cases hk : i ≤ n + db
      · simp [coeff_of_length_le (hi.trans hk)]
      · simp [hzero (i - n) (by omega)]
    rw [coeff_of_length_le (by simpa [premStep] using hi), coeff_of_length_le hi, hterm, ite_self, BitVec.xor_zero]

/-- A division step clears the leading coefficient, as inv(q[db])·q[db] = 1. -/
theorem coeff_premStep_of_le (hne : coeff q db ≠ 0#10) (hzero : ∀ k, db < k → coeff q k = 0#10) {r : List Ext}
    {n k : Nat} (hr : ∀ k, n + db < k → coeff r k = 0#10) (hk : n + db ≤ k) :
    coeff (premStep q db (gf1024Inv (coeff q db)) r (n + db)) k = 0#10 := by
  rw [coeff_premStep hzero, if_pos (by omega)]
  obtain rfl | hlt := hk.eq_or_lt
  · rw [Nat.add_sub_cancel_left, gf1024Mul_assoc, gf1024Mul_comm (gf1024Inv _), gf1024Mul_gf1024Inv hne, gf1024Mul_one,
      BitVec.xor_self]
  · rw [hr k hlt, hzero (k - n) (by omega), gf1024Mul_zero, BitVec.xor_zero]

/-- The last n rounds of the division, at n - 1 + db, ..., db. -/
def premRounds (q : List Ext) (db : Nat) : Nat → List Ext → List Ext
  | 0, r => r
  | n + 1, r => premRounds q db n (premStep q db (gf1024Inv (coeff q db)) r (n + db))

theorem premBy_eq_take_premRounds (p q : List Ext) (db : Nat) :
    premBy p q db = (premRounds q db (p.length - db) (p ++ List.replicate (db - p.length) 0#10)).take db := by
  have hfold (n : Nat) (r : List Ext) :
      ((List.range n).reverse.map (· + db)).foldl (premStep q db (gf1024Inv (coeff q db))) r = premRounds q db n r := by
    induction n generalizing r with
    | zero => rfl
    | succ n ih =>
      rw [List.range_succ, List.reverse_append, List.reverse_singleton, List.singleton_append, List.map_cons,
        List.foldl_cons, ih, premRounds]
  exact congrArg (List.take db) (hfold _ _)

/-- Each round takes the leading coefficient off the dividend and puts one on the quotient. -/
theorem exists_quotient (hne : coeff q db ≠ 0#10) (hzero : ∀ k, db < k → coeff q k = 0#10) {n : Nat} {r : List Ext}
    (hr : ∀ k, n + db ≤ k → coeff r k = 0#10) :
    ∃ quot : List Ext, quot.length = n ∧
      ∀ k, coeff r k = coeff (pmul quot q) k ^^^ coeff ((premRounds q db n r).take db) k := by
  induction n generalizing r with
  | zero =>
    refine ⟨[], rfl, fun k => ?_⟩
    have hpmul : pmul [] q = [] := rfl
    rw [hpmul, coeff_nil, BitVec.zero_xor, premRounds, coeff_take]
    split
    · rfl
    · exact hr k (by omega)
  | succ n ih =>
    obtain ⟨quot, hlen, hquot⟩ := ih fun k => coeff_premStep_of_le hne hzero fun k hk => hr k (by omega)
    have hround (k : Nat) := (coeff_premStep hzero (gf1024Inv (coeff q db)) r n k).symm.trans (hquot k)
    refine ⟨quot ++ [gf1024Mul (coeff r (n + db)) (gf1024Inv (coeff q db))], by simp [hlen], fun k => ?_⟩
    rw [coeff_pmul_concat, hlen, premRounds, BitVec.xor_assoc, BitVec.xor_comm (ite ..), ← BitVec.xor_assoc, ← hround,
      BitVec.xor_assoc, BitVec.xor_self, BitVec.xor_zero]

end

/-- Settles O32: the division's rounds find the quotient from its highest coefficient down. -/
theorem remainderIsARemainder : Obligations.RemainderIsARemainder := by
  intro a b db _ hne hzero
  have hr (k : Nat) (hk : a.length - db + db ≤ k) : coeff (a ++ List.replicate (db - a.length) 0#10) k = 0#10 := by
    rw [coeff_append_zeros, coeff_of_length_le (by omega)]
  obtain ⟨quot, -, hquot⟩ := exists_quotient hne hzero hr
  refine ⟨length_premBy a b db, quot, fun k => ?_⟩
  rw [premBy_eq_take_premRounds, ← hquot, coeff_append_zeros]

/-! The commands (42_polynomial.md R213-R220). -/

section
variable {s : State} {rd ra rb : RegIdx}

theorem zeroOfList_eq_true_iff {w : Nat} (xs : List (BitVec w)) : zeroOfList xs = true ↔ ∀ x ∈ xs, x = 0#w := by
  simp [zeroOfList]

/-- A polynomial result that fits is written as 20_memory.md R83 says. -/
theorem completes_putPoly {xs : List Ext} {z : Bool} {allZero : Prop} (hfits : DestFits s rd xs.length)
    (hz : z = true ↔ allZero) : Completes (s.finish (s.putPoly rd xs z)) (WritesPoly s rd xs allZero) := by
  rw [State.putPoly_ok.2 ⟨hfits, rfl⟩]
  refine ⟨_, rfl, ⟨fun j => Memory.read?_writeList_inside _ _ j xs, fun a => Memory.read?_writeList_outside _ _ a xs⟩,
    ⟨by simp [descWithLen], fun r hr => by simp [State.getN_setN_other _ _ hr]⟩, by simpa using hz, ?_⟩
  simp [KeepsB, KeepsE, KeepsSm, KeepsCm, KeepsPass, KeepsResult, KeepsControl, KeepsFaultRegs, KeepsRun, KeepsModel]

theorem exec_pevb_of_holds {a : List Sym} (ha : SmHolds s ra a) :
    exec (.pevb rd ra rb) s = .next (s.putE rd (peval (a.map embed) (s.getE rb))) := by
  simp only [exec, execPevb, State.checkSm_of_holds ha, State.smRegion_of_holds ha, bind_ok, pure_ok, State.finish_ok]

theorem exec_peve_of_holds {a : List Ext} (ha : XmHolds s ra a) :
    exec (.peve rd ra rb) s = .next (s.putE rd (peval a (s.getE rb))) := by
  simp only [exec, execPeve, State.checkXm_of_holds ha, State.xmRegion_of_holds ha, bind_ok, pure_ok, State.finish_ok]

theorem exec_prem_of_zero {a b : List Ext} (ha : XmHolds s ra a) (hb : XmHolds s rb b) (hdeg : pdeg b = none) :
    exec (.prem rd ra rb) s = .next (s.takeFault .divZero 0#32) := by
  simp only [exec, execPrem, State.checkXm_of_holds ha, State.checkXm_of_holds hb, State.xmRegion_of_holds ha,
    State.xmRegion_of_holds hb, bind_ok, hdeg, throw_error, State.finish_raise]

end

/-- The coefficients that R212 states are the derivative's. -/
theorem eq_pder {a d : List Ext} (hlen : d.length = a.length - 1)
    (hd : ∀ k (h : k < d.length), d[k] = if (k + 1) % 2 = 1 then coeff a (k + 1) else 0#10) : d = pder a := by
  refine List.ext_getElem (hlen.trans (length_pder a).symm) fun k h h' => ?_
  simp [hd k h, pder]

theorem coeff_of_allZero {b : List Ext} (h : AllZero b) (k : Nat) : coeff b k = 0#10 := by
  obtain hk | hk := Nat.lt_or_ge k b.length
  · rw [coeff_of_lt_length hk, h _ (List.getElem_mem hk)]
  · exact coeff_of_length_le hk

theorem length_pmul (p q : List Ext) :
    (pmul p q).length = if p.length = 0 ∨ q.length = 0 then 0 else p.length + q.length - 1 := by
  unfold pmul
  split
  · rfl
  · rw [List.length_map, List.length_range]

/-- Settles O28: the sources are read in full, then the result is written through its descriptor. -/
theorem embedAndDerivativeCommands : Obligations.EmbedAndDerivativeCommands := by
  refine fun s rd ra => ⟨fun a ha hfits => ?_, fun a d ha hlen hd hfits => ?_⟩
  · rw [exec_pemb_of_holds ha]
    exact completes_putPoly (by simpa using hfits) (zeroOfList_eq_true_iff a)
  · obtain rfl := eq_pder hlen hd
    rw [exec_pder_of_holds ha]
    exact completes_putPoly hfits (zeroOfList_eq_true_iff _)

/-- Settles O29: both commands write peval, which is the sum. -/
theorem evaluationCommands : Obligations.EvaluationCommands := by
  refine fun s rd ra rb => ⟨fun a ha => ?_, fun a ha => ?_, fun a x => peval_eq_xorSum_of_length_le x le_rfl⟩
  · rw [exec_pevb_of_holds ha, peval_eq_xorSum_of_length_le (n := a.length) _ (by simp)]
    simp only [coeff_map_embed]
    exact completes_putE _
  · rw [exec_peve_of_holds ha, peval_eq_xorSum_of_length_le _ le_rfl]
    exact completes_putE _

/-- Settles O30: a product is stored through its descriptor once both sources are read. -/
theorem productCommands : Obligations.ProductCommands := by
  refine fun s rd ra rb a b ha hb => ⟨fun hfits => ?_, fun d hfits => ?_, length_pmul a b⟩
  · rw [exec_pmul_of_holds ha hb]
    exact completes_putPoly hfits (zeroOfList_eq_true_iff _)
  · rw [exec_pmulx_of_holds d ha hb]
    exact completes_putPoly (by simpa using hfits) (zeroOfList_eq_true_iff _)

/-- Settles O31, by the divisor's degree. -/
theorem remainderCommand : Obligations.RemainderCommand := by
  refine fun s rd ra rb a b ha hb => ⟨fun db _ hne hzero hfits => ⟨length_premBy a b db, ?_⟩, fun hb0 => ?_⟩
  · rw [exec_prem_of_holds ha hb (pdeg_eq_some hne hzero)]
    exact completes_putPoly (by rwa [length_premBy]) (zeroOfList_eq_true_iff _)
  · exact exec_prem_of_zero ha hb (pdeg_eq_none (coeff_of_allZero hb0))

end Sys2Proof.Machine
end

/-! The checksum engine (43_lfsr_checksum.md): the step as reduction by g, the checksum symbols, and the eight commands. -/

section
namespace Sys2Proof.Machine

open Sys2Proof.Claims

/-! The LFSR step (43_lfsr_checksum.md R241, R242). -/

@[simp] theorem midCoeff_xor (m n : Midstate) (k : Nat) : midCoeff (m ^^^ n) k = midCoeff m k ^^^ midCoeff n k :=
  BitVec.extractLsb'_xor

/-- A midstate is its six coefficients (R242). -/
theorem midstate_ext {m n : Midstate} (h : ∀ k < 6, midCoeff m k = midCoeff n k) : m = n := by
  refine BitVec.eq_of_getLsbD_eq fun i hi => ?_
  have hbit := congrArg (BitVec.getLsbD · (i % 5)) (h (i / 5) (by omega))
  simpa [midCoeff, Nat.mod_lt, Nat.div_add_mod] using hbit

theorem addTaps_eq_xor (d : BitVec 5) (gs : List Midstate) (i : Nat) (m : Midstate) :
    addTaps d gs i m = m ^^^ addTaps d gs i 0#30 := by
  induction gs generalizing i m with
  | nil => simp [addTaps]
  | cons g gs ih =>
    rw [addTaps, addTaps, ih, ih (m := ite _ _ _), ← BitVec.xor_assoc]
    split <;> simp

/-- The five taps, gated by the bits of a symbol d, add d·(x^6 mod g) (R242). -/
theorem midCoeff_addTaps_zero : ∀ d : Sym, ∀ k < 6, midCoeff (addTaps d taps 0 0#30) k = gf32Mul d (genCoeff k) := by
  decide +kernel

/-- Before the taps, a step shifts the coefficients up and inserts the symbol. -/
theorem midCoeff_shift (m : Midstate) (v : Sym) {k : Nat} (hk : k < 6) :
    midCoeff ((m.extractLsb' 0 25 ++ 0#5) ^^^ v.setWidth 30) k = if k = 0 then v else midCoeff m (k - 1) := by
  refine BitVec.eq_of_getLsbD_eq fun i hi => ?_
  simp only [midCoeff, BitVec.getLsbD_extractLsb', BitVec.getLsbD_xor, BitVec.getLsbD_append, BitVec.getLsbD_setWidth]
  cases k with
  | zero => simp [hi, hi.trans (by decide : 5 < 30)]
  | succ k =>
    have hlow : ¬5 * (k + 1) + i < 5 := by omega
    have hsrc : 5 * (k + 1) + i - 5 = 5 * k + i := by omega
    have hsrcLt : 5 * k + i < 25 := by omega
    simp [hi, hlow, hsrc, hsrcLt, BitVec.getLsbD_of_ge v _ (Nat.not_lt.1 hlow)]

theorem midCoeff_lfsrStep (m : Midstate) (v : Sym) {k : Nat} (hk : k < 6) :
    midCoeff (lfsrStep m v) k = (if k = 0 then v else midCoeff m (k - 1)) ^^^ gf32Mul (midCoeff m 5) (genCoeff k) := by
  rw [lfsrStep, addTaps_eq_xor, midCoeff_xor, midCoeff_shift m v hk, midCoeff_addTaps_zero _ k hk]
  rfl

/-- Settles O39: the shift gives m·x + v below x^6, the taps what x^6 is modulo g. -/
theorem lfsrStepIsReductionByG : Obligations.LfsrStepIsReductionByG := fun m v _ hk => midCoeff_lfsrStep m v hk

/-! The checksum symbols (R243, R244). -/

theorem lfsrStep_xor (m n : Midstate) (u v : Sym) : lfsrStep (m ^^^ n) (u ^^^ v) = lfsrStep m u ^^^ lfsrStep n v := by
  refine midstate_ext fun k hk => ?_
  simp only [midCoeff_xor, midCoeff_lfsrStep _ _ hk, gf32Mul_xor_left]
  split <;> ac_rfl

theorem lfsrFeed_zipWith_xor {xs ys : List Sym} (h : xs.length = ys.length) (m n : Midstate) :
    lfsrFeed (m ^^^ n) (List.zipWith (· ^^^ ·) xs ys) = lfsrFeed m xs ^^^ lfsrFeed n ys := by
  induction xs generalizing m n ys with
  | nil =>
    obtain rfl := List.length_eq_zero_iff.1 h.symm
    rfl
  | cons x xs ih =>
    obtain ⟨y, ys, rfl⟩ := List.exists_cons_of_length_eq_add_one h.symm
    simpa [lfsrFeed, lfsrStep_xor] using ih (Nat.succ.inj h) (lfsrStep m x) (lfsrStep n y)

theorem checksumFrom_eq (m t : Midstate) :
    checksumFrom m t = symbolsOf ([0#5, 0#5, 0#5, 0#5, 0#5, 0#5].foldl lfsrStep m ^^^ t) := rfl

theorem symbolsOf_eq (r : Midstate) :
    symbolsOf r = [midCoeff r 5, midCoeff r 4, midCoeff r 3, midCoeff r 2, midCoeff r 1, midCoeff r 0] := rfl

/-- Six symbols fed to the zero midstate become its coefficients: only zeros are shifted out. -/
theorem lfsrFeed_zero_symbolsOf (r : Midstate) : lfsrFeed 0#30 (symbolsOf r) = r := by
  have hzero (k : Nat) : midCoeff 0#30 k = 0#5 := by simp [midCoeff]
  refine midstate_ext fun k hk => ?_
  interval_cases k <;> simp [lfsrFeed, symbolsOf_eq, midCoeff_lfsrStep, hzero]

/-- By linearity, symbols that leave the remainder r when fed to zero add r to what six zeros leave. -/
theorem lfsrFeed_checksumFrom (m t : Midstate) : lfsrFeed m (checksumFrom m t) = t := by
  have hsum := lfsrFeed_zipWith_xor (xs := List.replicate checksumLength 0#5) (ys := checksumFrom m t) rfl m 0#30
  have hsyms : List.zipWith (· ^^^ ·) (List.replicate checksumLength 0#5) (checksumFrom m t) = checksumFrom m t := by
    simp [checksumFrom, symbolsOf, checksumLength, List.replicate]
  rw [hsyms, BitVec.xor_zero] at hsum
  rw [hsum, checksumFrom, lfsrFeed_zero_symbolsOf, ← BitVec.xor_assoc, BitVec.xor_self, BitVec.zero_xor]

/-! What the engine's commands leave unchanged. -/

section
variable {s t : State} {rd : RegIdx}

/-- A command that only writes VAR, MID and CNT. -/
theorem keeps_passUpdate {x : Variant} {m : Midstate} {c : Word}
    (ht : t = (((s.setVar x).setMid m).setCnt c).advance) :
    t.z = s.z ∧ t.pc = s.pc + 1#16 ∧ KeepsRegs s t ∧ KeepsMem s t ∧ KeepsResult s t ∧ KeepsControl s t := by
  simp [ht, KeepsRegs, KeepsB, KeepsE, KeepsN, KeepsMem, KeepsSm, KeepsXm, KeepsCm, KeepsResult, KeepsControl,
    KeepsFaultRegs, KeepsRun, KeepsModel]

/-- A command that only writes RC and V. -/
theorem keeps_setResult {r : ResultCode} (ht : t = (s.setResult r).advance) :
    t.z = s.z ∧ t.pc = s.pc + 1#16 ∧ KeepsRegs s t ∧ KeepsMem s t ∧ KeepsPass s t ∧ KeepsControl s t := by
  simp [ht, KeepsRegs, KeepsB, KeepsE, KeepsN, KeepsMem, KeepsSm, KeepsXm, KeepsCm, KeepsPass, KeepsControl,
    KeepsFaultRegs, KeepsRun, KeepsModel]

theorem writesN_putN (x : Word) : WritesN s rd x (s.putN rd x) := by
  refine ⟨by simp [State.putN], fun r hr => by simp [State.putN, State.getN_setN_other s x hr], ?_, ?_⟩
  · simp [State.putN, zeroOf]
  · simp [State.putN, KeepsB, KeepsE, KeepsMem, KeepsSm, KeepsXm, KeepsCm, KeepsPass, KeepsResult, KeepsControl,
      KeepsFaultRegs, KeepsRun, KeepsModel]

theorem completes_putN (x : Word) : Completes (.next (s.putN rd x)) (WritesN s rd x) := ⟨_, rfl, writesN_putN x⟩

end

/-! The variants and the symbol count (10_state.md R40, R43). -/

theorem exists_variantOfNumber {v : BitVec 2} (h : v ≠ 3#2) : ∃ x, variantOfNumber v = some x :=
  Option.ne_none_iff_exists'.1 fun hnone => h ((variantOfNumber_eq_none_iff v).1 hnone)

theorem target_eq_none_iff (x : Variant) : target x = none ↔ x = .noChecksum := by
  cases x <;> simp [target]

theorem var_ne_noChecksum_of_target {x : Variant} {tgt : Midstate} (h : target x = some tgt) : x ≠ .noChecksum :=
  fun hx => Option.some_ne_none tgt (h.symm.trans ((target_eq_none_iff x).2 hx))

theorem exists_target {x : Variant} (h : x ≠ .noChecksum) : ∃ tgt, target x = some tgt :=
  Option.ne_none_iff_exists'.1 (mt (target_eq_none_iff x).1 h)

theorem satAdd_toNat (c : Word) (k : Nat) : (satAdd c k).toNat = min (c.toNat + k) (2 ^ 32 - 1) :=
  (BitVec.toNat_ofNat _ _).trans (Nat.mod_eq_of_lt (by omega))

/-! SETV and LRST (R245, R246). -/

theorem initMidstate_eq (x : Variant) : initMidstate x = if x = .noChecksum then 0#30 else 1#30 := by
  cases x <;> rfl

/-- Settles O35: each command is an update of the pass. -/
theorem selectAndStartPass : Obligations.SelectAndStartPass := by
  refine ⟨fun s v hv => ?_, fun s => ?_⟩
  · obtain ⟨x, hx⟩ := exists_variantOfNumber hv
    refine ⟨(s.setVar x).advance, by simp only [exec, execSetv, hx], variantNumber_of_variantOfNumber hx, rfl, rfl, ?_⟩
    exact keeps_passUpdate (x := x) (m := s.mid) (c := s.cnt) rfl
  · exact ⟨_, rfl, initMidstate_eq s.var, rfl, rfl, keeps_passUpdate (x := s.var) rfl⟩

/-! LFB and LFM (R247, R248). -/

section
variable {s : State}

/-- The symbols xs are fed and counted, PC + 1, nothing else. -/
def FeedsSymbols (s : State) (xs : List Sym) (t : State) : Prop :=
  t.mid = (if s.var = .noChecksum then s.mid else xs.foldl lfsrStep s.mid) ∧
  t.cnt.toNat = min (s.cnt.toNat + xs.length) (2 ^ 32 - 1) ∧ t.var = s.var ∧ t.z = s.z ∧ t.pc = s.pc + 1#16 ∧
  KeepsRegs s t ∧ KeepsMem s t ∧ KeepsResult s t ∧ KeepsControl s t

theorem State.feed_eq_setMid (xs : List Sym) :
    s.feed xs = s.setMid (if s.var = .noChecksum then s.mid else lfsrFeed s.mid xs) := by
  unfold State.feed
  split
  next hnone => rw [if_pos ((target_eq_none_iff _).1 hnone)]; rfl
  next _ hsome => rw [if_neg (var_ne_noChecksum_of_target hsome)]

theorem feedsSymbols_feed (xs : List Sym) :
    FeedsSymbols s xs ((s.feed xs).setCnt (satAdd s.cnt xs.length)).advance := by
  rw [State.feed_eq_setMid]
  exact ⟨rfl, satAdd_toNat s.cnt xs.length, rfl, keeps_passUpdate (x := s.var) rfl⟩

theorem exec_lfm_of_holds {ra : RegIdx} {a : List Sym} (ha : SmHolds s ra a) :
    exec (.lfm ra) s = .next ((s.feed a).setCnt (satAdd s.cnt a.length)).advance := by
  simp only [exec, execLfm, State.checkSm_of_holds ha, State.smRegion_of_holds ha, bind_ok, pure_ok, State.finish_ok]

end

/-- Settles O36: both commands end in the same feed; LFM first checks its region. -/
theorem feedCommands : Obligations.FeedCommands := fun s ra =>
  ⟨⟨_, rfl, feedsSymbols_feed [s.getB ra]⟩, fun a ha => ⟨_, exec_lfm_of_holds ha, feedsSymbols_feed a⟩, faults_checkSm⟩

/-! LVER, LRES and SELFT (R250, R251, R253). -/

theorem State.verdict_eq (s : State) :
    s.verdict = if s.var = .noChecksum then .ok
      else if s.cnt.toNat < 6 ∨ 1023 < s.cnt.toNat then .degenerateInput
      else if target s.var = some s.mid then .ok else .invalidChecksum := by
  unfold State.verdict
  split
  next hnone => rw [if_pos ((target_eq_none_iff _).1 hnone)]
  next tgt hsome =>
    rw [if_neg (var_ne_noChecksum_of_target hsome), hsome]
    exact if_congr Iff.rfl rfl (if_congr (by rw [Option.some_inj, eq_comm]) rfl rfl)

theorem State.adjustedResidue_of_target {s : State} {tgt : Midstate} (h : target s.var = some tgt) :
    s.adjustedResidue = s.mid ^^^ tgt := by
  simp only [State.adjustedResidue, h]

theorem State.adjustedResidue_of_noChecksum {s : State} (h : s.var = .noChecksum) : s.adjustedResidue = 0#30 := by
  simp only [State.adjustedResidue, (target_eq_none_iff _).2 h]

/-- Settles O38: the constants are the table's, and each command sets RC or writes one register. -/
theorem verdictCommands : Obligations.VerdictCommands := by
  refine ⟨⟨rfl, rfl, rfl⟩, ⟨rfl, rfl, rfl⟩, ⟨rfl, rfl, rfl⟩, fun _ => rfl, fun s => ⟨?_, fun rd => ⟨fun hvar => ?_,
    fun tgt htgt => ?_⟩, ?_⟩⟩
  · exact ⟨_, rfl, s.verdict_eq, beq_iff_eq, keeps_setResult rfl⟩
  · rw [exec, execLres, State.adjustedResidue_of_noChecksum hvar]
    exact completes_putN 0#32
  · rw [exec, execLres, State.adjustedResidue_of_target htgt, BitVec.ofNat_toNat]
    exact completes_putN _
  · exact ⟨_, rfl, rfl, rfl, keeps_setResult rfl⟩

/-! LCHK (R249). -/

section
variable {s t : State} {rd : RegIdx}

theorem stored_writeList {w : Nat} (m : Memory w) (base : Nat) (xs : List (BitVec w)) :
    Stored m (m.writeList base xs) base xs :=
  ⟨fun j => Memory.read?_writeList_inside _ _ j xs, fun a => Memory.read?_writeList_outside _ _ a xs⟩

theorem describes_setN (len : Nat) : Describes s (s.setN rd (descWithLen (s.getN rd) len)) rd len :=
  ⟨s.getN_setN_same rd _, fun _ hr => s.getN_setN_other _ hr⟩

/-- s once LCHK has appended the symbols xs, with MID m and CNT c (R249). -/
def State.appendChecksum (s : State) (rd : RegIdx) (xs : List Sym) (m : Midstate) (c : Word) : State :=
  (((((s.setSmList (descBase (s.getN rd)) xs).setN rd (descWithLen (s.getN rd) xs.length)).setMid m).setCnt c).setResult
    .ok).advance

theorem appendChecksum_effect {xs : List Sym} {m : Midstate} {c : Word} (ht : t = s.appendChecksum rd xs m c) :
    Stored s.sm t.sm (descBase (s.getN rd)) xs ∧ Describes s t rd xs.length ∧ t.mid = m ∧ t.cnt = c ∧
    t.rc = .ok ∧ t.v = true ∧ t.var = s.var ∧ t.z = s.z ∧ t.pc = s.pc + 1#16 ∧ KeepsB s t ∧ KeepsE s t ∧ KeepsXm s t ∧
    KeepsCm s t ∧ KeepsControl s t := by
  subst ht
  refine ⟨stored_writeList _ _ _, describes_setN _, rfl, rfl, rfl, rfl, rfl, rfl, rfl, ?_⟩
  simp [State.appendChecksum, KeepsB, KeepsE, KeepsXm, KeepsCm, KeepsControl, KeepsFaultRegs, KeepsRun, KeepsModel]

theorem exec_lchk_of_noChecksum (hvar : s.var = .noChecksum) :
    exec (.lchk rd) s = .next ((s.setN rd (descWithLen (s.getN rd) 0)).setResult .ok).advance := by
  simp only [exec, execLchk, (target_eq_none_iff _).2 hvar]

theorem exec_lchk_of_not_fits (hvar : s.var ≠ .noChecksum) (h : Config.smSize < descBase (s.getN rd) + 6) :
    Faults (exec (.lchk rd) s) s 3#8 (BitVec.ofNat 32 (max (descBase (s.getN rd)) Config.smSize)) := by
  obtain ⟨tgt, htgt⟩ := exists_target hvar
  simp only [exec, execLchk, htgt]
  exact faults_of_smRange (bind_error_of_error (checkRegion_raise .smRange (by simp only [checksumLength]; omega)))

/-- Where the six words fit, the length test decides. -/
theorem exec_lchk_of_fits {tgt : Midstate} (htgt : target s.var = some tgt)
    (hfits : descBase (s.getN rd) + 6 ≤ Config.smSize) :
    exec (.lchk rd) s = .next (if 1017 < s.cnt.toNat then (s.setResult .degenerateInput).advance
      else s.appendChecksum rd (checksumFrom s.mid tgt) tgt (satAdd s.cnt 6)) := by
  have hregion : checkRegion .smRange Config.smSize (descBase (s.getN rd)) checksumLength = .ok () :=
    checkRegion_ok.2 (.inr hfits)
  have hlimit : codeLength - checksumLength = 1017 := rfl
  simp only [exec, execLchk, htgt, hregion, bind_ok, lfsrFeed_checksumFrom, hlimit]
  split
  · rfl
  · rfl

end

/-- Settles O37: the four outcomes, in the order of R249's checks. -/
theorem checksumCommand : Obligations.ChecksumCommand := by
  refine fun s rd => ⟨fun hvar => ?_, exec_lchk_of_not_fits, fun hvar hfits hcnt => ?_, fun tgt htgt hfits hcnt => ?_⟩
  · refine ⟨_, exec_lchk_of_noChecksum hvar, describes_setN 0, rfl, rfl, rfl, rfl, ?_⟩
    simp [KeepsB, KeepsE, KeepsMem, KeepsSm, KeepsXm, KeepsCm, KeepsPass, KeepsControl, KeepsFaultRegs, KeepsRun,
      KeepsModel]
  · obtain ⟨tgt, htgt⟩ := exists_target hvar
    rw [exec_lchk_of_fits htgt hfits, if_pos hcnt]
    exact ⟨_, rfl, rfl, rfl, keeps_setResult rfl⟩
  · have hexec := exec_lchk_of_fits htgt hfits
    rw [if_neg (Nat.not_lt.2 hcnt)] at hexec
    obtain ⟨hstored, hdesc, hmid, hcount, hkeep⟩ :=
      appendChecksum_effect (xs := checksumFrom s.mid tgt) (m := tgt) (c := satAdd s.cnt 6) rfl
    rw [checksumFrom_eq, symbolsOf_eq] at hstored
    refine ⟨_, hexec, hstored, hdesc, hmid, ?_, hkeep⟩
    rw [hcount, satAdd_toNat]
    omega

/-! LVER after LCHK (R244, R249). -/

section
variable {s t : State} {rd : RegIdx}

theorem exec_lver_of_verdict (h : t.verdict = .ok) : Completes (exec .lver t) fun u => u.rc = .ok ∧ u.v = true :=
  ⟨_, rfl, h, beq_iff_eq.2 h⟩

/-- Of LCHK's four outcomes the fault sets ERR and a stream that is too long gives DEGENERATE_INPUT; the other two pass
every test of LVER. -/
theorem verdict_of_exec_lchk (h : exec (.lchk rd) s = .next t) (herr : t.err = false) (hrc : t.rc = .ok) :
    t.verdict = .ok := by
  by_cases hvar : s.var = .noChecksum
  · cases h.symm.trans (exec_lchk_of_noChecksum hvar)
    exact (State.verdict_eq _).trans (if_pos hvar)
  obtain ⟨tgt, htgt⟩ := exists_target hvar
  obtain hrange | hfits := Nat.lt_or_ge Config.smSize (descBase (s.getN rd) + 6)
  · cases h.symm.trans (exec_lchk_of_not_fits hvar hrange)
    exact Bool.noConfusion herr
  have ht := Host.Outcome.next.inj (h.symm.trans (exec_lchk_of_fits htgt hfits))
  obtain hlong | hcnt := Nat.lt_or_ge 1017 s.cnt.toNat
  · rw [if_pos hlong] at ht
    cases ht
    exact ResultCode.noConfusion hrc
  · rw [if_neg (Nat.not_lt.2 hcnt)] at ht
    obtain ⟨-, -, hmid, hcount, -, -, hkeep, -⟩ := appendChecksum_effect ht
    have hlen : ¬(t.cnt.toNat < 6 ∨ 1023 < t.cnt.toNat) := by
      rw [hcount, satAdd_toNat]
      omega
    rw [State.verdict_eq, if_neg hlen, hkeep, hmid, if_neg hvar, if_pos htgt]

end

/-- Settles O40: the symbols cancel the remainder, and a successful LCHK leaves LVER nothing to reject. -/
theorem checksumDrivesMidstateToTarget : Obligations.ChecksumDrivesMidstateToTarget :=
  ⟨lfsrFeed_checksumFrom, fun _ _ _ h _ herr hrc => exec_lver_of_verdict (verdict_of_exec_lchk h herr hrc)⟩

end Sys2Proof.Machine
end

/-! Syndromes (44_correction.md R271, R272): they vanish only on the residue 0, and SYND. -/

section
namespace Sys2Proof.Machine

open Sys2Proof.Claims

/-! A polynomial with as many distinct roots as coefficients is 0 (42_polynomial.md R211). -/

theorem gf1024Mul_eq_zero_iff (x y : Ext) : gf1024Mul x y = 0#10 ↔ x = 0#10 ∨ y = 0#10 := by
  refine ⟨fun h => ?_, ?_⟩
  · by_contra hne
    obtain ⟨hx, hy⟩ := not_or.1 hne
    exact gf1024Mul_ne_zero hx hy h
  · rintro (rfl | rfl)
    · exact zero_gf1024Mul y
    · exact gf1024Mul_zero x

theorem peval_of_allZero {p : List Ext} (h : AllZero p) (x : Ext) : peval p x = 0#10 := by
  induction p with
  | nil => rfl
  | cons a p ih =>
    obtain ⟨ha, hp⟩ := List.forall_mem_cons.1 h
    simp [peval, ih hp, ha]

/-- The values of a list's suffixes at r, through which Horner's scheme passes on its way to the value at r. -/
def suffixValues (r : Ext) : List Ext → List Ext
  | [] => []
  | a :: p => peval (a :: p) r :: suffixValues r p

theorem length_suffixValues (r : Ext) (p : List Ext) : (suffixValues r p).length = p.length := by
  induction p with
  | nil => rfl
  | cons a p ih => rw [suffixValues, List.length_cons, ih, List.length_cons]

/-- Division by x - r: the suffixes' values are the quotient, and the value at r is the remainder. -/
theorem peval_cons_eq_suffixValues (r a : Ext) (p : List Ext) (x : Ext) :
    peval (a :: p) x = gf1024Mul (x ^^^ r) (peval (suffixValues r p) x) ^^^ peval (a :: p) r := by
  induction p generalizing a with
  | nil => simp [peval, suffixValues]
  | cons b p ih =>
    let v := peval (b :: p) r
    let q := peval (suffixValues r p) x
    have hv : gf1024Mul v x = gf1024Mul (x ^^^ r) v ^^^ gf1024Mul v r := by
      simp [gf1024Mul_comm v, gf1024Mul_xor_left]
    calc peval (a :: b :: p) x
      _ = gf1024Mul (gf1024Mul (x ^^^ r) q ^^^ v) x ^^^ a := by rw [peval, ih b]
      _ = gf1024Mul (x ^^^ r) (gf1024Mul q x ^^^ v) ^^^ (gf1024Mul v r ^^^ a) := by
        rw [gf1024Mul_xor_left, gf1024Mul_xor_right, gf1024Mul_assoc, hv]
        ac_rfl

theorem allZero_of_suffixValues {r : Ext} {p : List Ext} (h : AllZero (suffixValues r p)) : AllZero p := by
  induction p with
  | nil => exact h
  | cons a p ih =>
    obtain ⟨hvalue, hrest⟩ := List.forall_mem_cons.1 h
    have hp : AllZero p := ih hrest
    exact List.forall_mem_cons.2 ⟨by simpa [peval, peval_of_allZero hp] using hvalue, hp⟩

/-- Each root divides out a factor, and the other roots are the quotient's. -/
theorem allZero_of_roots {rs p : List Ext} (hdistinct : rs.Nodup) (hlen : p.length ≤ rs.length)
    (hroots : ∀ r ∈ rs, peval p r = 0#10) : AllZero p := by
  induction rs generalizing p with
  | nil =>
    obtain rfl := List.eq_nil_of_length_eq_zero (Nat.le_zero.1 hlen)
    exact List.forall_mem_nil _
  | cons r rs ih =>
    obtain _ | ⟨a, p⟩ := p
    · exact List.forall_mem_nil _
    obtain ⟨hr, hdistinct⟩ := List.nodup_cons.1 hdistinct
    obtain ⟨hroot, hroots⟩ := List.forall_mem_cons.1 hroots
    have hquot : AllZero (suffixValues r p) := by
      refine ih hdistinct (by simpa [length_suffixValues] using hlen) fun x hx => ?_
      have hprod := hroots x hx
      rw [peval_cons_eq_suffixValues r, hroot, BitVec.xor_zero, gf1024Mul_eq_zero_iff] at hprod
      refine hprod.resolve_left fun hxr => hr ?_
      rwa [← BitVec.xor_eq_zero_iff.1 hxr]
    exact allZero_of_suffixValues (List.forall_mem_cons.2 ⟨hroot, hquot⟩)

/-! A polynomial over GF(32) takes conjugate values at conjugate points (41_gf1024.md R197). -/

theorem gf1024Conj_gf1024Mul (x y : Ext) : gf1024Conj (gf1024Mul x y) = gf1024Mul (gf1024Conj x) (gf1024Conj y) := by
  have hcomm : Commute (mulBy x) (mulBy y) := by
    rw [Commute, SemiconjBy, ← mulBy_gf1024Mul, gf1024Mul_comm, mulBy_gf1024Mul]
  simp only [← gf1024Pow_thirtyTwo]
  exact mulBy_injective (by simp only [mulBy_gf1024Mul, mulBy_gf1024Pow, hcomm.mul_pow])

theorem peval_map_embed_gf1024Conj (a : List Sym) (x : Ext) :
    peval (a.map embed) (gf1024Conj x) = gf1024Conj (peval (a.map embed) x) := by
  induction a with
  | nil => exact (by decide : 0#10 = gf1024Conj 0#10)
  | cons b a ih =>
    have hb : gf1024Conj (embed b) = embed b := (gf1024Conj_eq_self_iff _).2 ⟨b, rfl⟩
    simp only [List.map_cons, peval, ih, gf1024Conj_xor, gf1024Conj_gf1024Mul, hb]

/-! The syndromes of a residue (R271). -/

theorem syndromes_eq_map (d : Midstate) : syndromes d = (List.range 3).map (syndromeAt d) := rfl

theorem syndromeAt_eq (d : Midstate) (j : Nat) : syndromeAt d j = peval (residuePoly d) (betaPow (24 + j)) := rfl

theorem length_residuePoly (d : Midstate) : (residuePoly d).length = 6 := rfl

theorem coeff_residuePoly (d : Midstate) {k : Nat} (hk : k < 6) : coeff (residuePoly d) k = embed (midCoeff d k) := by
  interval_cases k <;> rfl

/-- The three roots of R22 and their conjugates, the roots of g over GF(1024). -/
def generatorRoots : List Ext :=
  [betaPow 24, betaPow 25, betaPow 26, gf1024Conj (betaPow 24), gf1024Conj (betaPow 25), gf1024Conj (betaPow 26)]

theorem nodup_generatorRoots : generatorRoots.Nodup := by decide +kernel

theorem peval_residuePoly_generatorRoots {d : Midstate} (h : ∀ j < 3, syndromeAt d j = 0#10) :
    ∀ r ∈ generatorRoots, peval (residuePoly d) r = 0#10 := by
  have hroot (j : Nat) (hj : j < 3) : peval (residuePoly d) (betaPow (24 + j)) = 0#10 := h j hj
  have hconj (j : Nat) (hj : j < 3) : peval (residuePoly d) (gf1024Conj (betaPow (24 + j))) = 0#10 :=
    (peval_map_embed_gf1024Conj _ _).trans (congrArg gf1024Conj (hroot j hj))
  simp only [generatorRoots, List.forall_mem_cons]
  exact ⟨hroot 0 (by decide), hroot 1 (by decide), hroot 2 (by decide), hconj 0 (by decide), hconj 1 (by decide),
    hconj 2 (by decide), List.forall_mem_nil _⟩

theorem syndromeAt_zero : ∀ j < 3, syndromeAt 0#30 j = 0#10 := by decide +kernel

/-- Settles O42: six coefficients, and with the conjugates of the three designated roots six roots. -/
theorem zeroSyndromesIffValid : Obligations.ZeroSyndromesIffValid := by
  refine fun d => ⟨fun h => ?_, fun h => h ▸ syndromeAt_zero⟩
  have hzero : AllZero (residuePoly d) :=
    allZero_of_roots nodup_generatorRoots (length_residuePoly d).le (peval_residuePoly_generatorRoots h)
  refine midstate_ext fun k hk => embed_injective ?_
  rw [← coeff_residuePoly d hk, coeff_of_allZero hzero]
  simp [midCoeff, embed]

/-! SYND (R272). -/

section
variable {s : State} {rd : RegIdx}

theorem exec_synd_of_noChecksum (hvar : s.var = .noChecksum) :
    exec (.synd rd) s = s.finish (s.putPoly rd [] (zeroOfList ([] : List Ext))) := by
  simp only [exec, execSynd, (target_eq_none_iff _).2 hvar]

theorem exec_synd_of_target {tgt : Midstate} (htgt : target s.var = some tgt) :
    exec (.synd rd) s =
      s.finish (s.putPoly rd (syndromes (s.mid ^^^ tgt)) (zeroOfList (syndromes (s.mid ^^^ tgt)))) := by
  simp only [exec, execSynd, htgt, State.adjustedResidue_of_target htgt]

end

theorem zeroOfList_syndromes_eq_true_iff (d : Midstate) :
    zeroOfList (syndromes d) = true ↔ ∀ j < 3, syndromeAt d j = 0#10 := by
  rw [zeroOfList_eq_true_iff, syndromes_eq_map, List.forall_mem_map]
  exact forall_congr' fun j => imp_congr_left List.mem_range

/-- Settles O41: the empty list always fits, and three syndromes are stored or fault. -/
theorem syndromeCommand : Obligations.SyndromeCommand := by
  refine fun s rd => ⟨fun hvar => ?_, fun tgt htgt hfits => ?_, fun hvar hfits => ?_⟩
  · rw [exec_synd_of_noChecksum hvar]
    exact completes_putPoly (.inl rfl) (by simp [zeroOfList])
  · rw [exec_synd_of_target htgt]
    exact completes_putPoly hfits (zeroOfList_syndromes_eq_true_iff _)
  · obtain ⟨tgt, htgt⟩ := exists_target hvar
    rw [exec_synd_of_target htgt]
    exact faults_putPoly _ rfl hfits

end Sys2Proof.Machine
end

/-! Berlekamp-Massey (44_correction.md R273): what its polynomial does on its syndromes, and LOC (R274). -/

section
namespace Sys2Proof.Machine

open Sys2Proof.Claims

/-! The coefficients of c + q·x^m·b and of its products. -/

theorem coeff_addShifted (c : List Ext) (q : Ext) (m : Nat) (b : List Ext) (k : Nat) :
    coeff (addShifted c q m b) k = coeff c k ^^^ if m ≤ k then gf1024Mul q (coeff b (k - m)) else 0#10 := by
  rw [addShifted, coeff_map_range]
  split
  · rfl
  next hk =>
    rw [coeff_of_length_le (p := c) (by omega), coeff_of_length_le (p := b) (by omega), gf1024Mul_zero, ite_self,
      BitVec.xor_zero]

theorem coeff_replicate_zero_append (m : Nat) (p : List Ext) (k : Nat) :
    coeff (List.replicate m 0#10 ++ p) k = if m ≤ k then coeff p (k - m) else 0#10 := by
  split
  next hk => rw [coeff_append_right (by simpa using hk), List.length_replicate]
  next hk =>
    rw [coeff_append_left (by simpa using hk), coeff_of_lt_length (by simpa using hk), List.getElem_replicate]

/-- x^m·p times s is x^m times p·s. -/
theorem coeff_pmul_replicate_zero_append (m : Nat) (p s : List Ext) (k : Nat) :
    coeff (pmul (List.replicate m 0#10 ++ p) s) k = coeff (List.replicate m 0#10 ++ pmul p s) k := by
  induction m generalizing k with
  | zero => rfl
  | succ m ih =>
    rw [List.replicate_succ, List.cons_append, coeff_pmul_cons, zero_gf1024Mul, BitVec.xor_zero]
    cases k with
    | zero => rfl
    | succ k => exact ih k

theorem xorSum_map_range_of_le {f : Nat → Ext} {m n : Nat} (h : m ≤ n) (hzero : ∀ i, m ≤ i → f i = 0#10) :
    xorSum ((List.range n).map f) = xorSum ((List.range m).map f) := by
  induction n, h using Nat.le_induction with
  | base => rfl
  | succ n hn ih =>
    rw [List.range_succ, List.map_append, List.map_singleton, xorSum_concat, ih, hzero n hn, BitVec.xor_zero]

/-- The sum of R212 over any range that covers the coefficients of p. -/
theorem coeff_pmul_of_length_le {p : List Ext} {n : Nat} (h : p.length ≤ n) (s : List Ext) (k : Nat) :
    coeff (pmul p s) k =
      xorSum ((List.range n).map fun i => if i ≤ k then gf1024Mul (coeff p i) (coeff s (k - i)) else 0#10) := by
  rw [coeff_pmul, xorSum_map_range_of_le h fun i hi => ?_]
  rw [coeff_of_length_le hi, zero_gf1024Mul, ite_self]

/-- The product is linear in its first factor. -/
theorem coeff_pmul_of_coeff {p c b : List Ext} {q : Ext} (h : ∀ k, coeff p k = coeff c k ^^^ gf1024Mul q (coeff b k))
    (s : List Ext) (k : Nat) :
    coeff (pmul p s) k = coeff (pmul c s) k ^^^ gf1024Mul q (coeff (pmul b s) k) := by
  let n := p.length + c.length + b.length
  rw [coeff_pmul_of_length_le (n := n) (by omega), coeff_pmul_of_length_le (p := c) (n := n) (by omega),
    coeff_pmul_of_length_le (p := b) (n := n) (by omega), gf1024Mul_xorSum_map, ← xorSum_map_xor]
  refine congrArg xorSum (List.map_congr_left fun i _ => ?_)
  by_cases hi : i ≤ k
  · simp only [if_pos hi, h, gf1024Mul_xor_left, gf1024Mul_assoc]
  · simp [if_neg hi]

theorem coeff_pmul_addShifted (c : List Ext) (q : Ext) (m : Nat) (b s : List Ext) (k : Nat) :
    coeff (pmul (addShifted c q m b) s) k =
      coeff (pmul c s) k ^^^ if m ≤ k then gf1024Mul q (coeff (pmul b s) (k - m)) else 0#10 := by
  rw [coeff_pmul_of_coeff (c := c) (q := q) (b := List.replicate m 0#10 ++ b) fun k => ?_,
    coeff_pmul_replicate_zero_append, coeff_replicate_zero_append]
  · split
    · rfl
    · rw [gf1024Mul_zero]
  · rw [coeff_addShifted, coeff_replicate_zero_append]
    split
    · rfl
    · rw [gf1024Mul_zero]

/-- With constant term 1 and degree at most l, the sum of R273 is the product's coefficient. -/
theorem coeff_pmul_eq_of_degree_le {c : List Ext} {l k : Nat} (hone : coeff c 0 = 1#10)
    (hdeg : ∀ i, l < i → coeff c i = 0#10) (hk : l ≤ k) (s : List Ext) :
    coeff (pmul c s) k =
      coeff s k ^^^ xorSum ((List.range l).map fun i => gf1024Mul (coeff c (i + 1)) (coeff s (k - (i + 1)))) := by
  rw [coeff_pmul_of_length_le (le_max_left c.length (l + 1)),
    xorSum_map_range_of_le (le_max_right c.length (l + 1)) fun i hi => ?_, xorSum_range_succ]
  · rw [hone, if_pos k.zero_le, gf1024Mul_comm, gf1024Mul_one, Nat.sub_zero]
    congr 2
    refine List.map_congr_left fun i hi => if_pos ?_
    have := List.mem_range.1 hi
    omega
  · rw [hdeg i hi, zero_gf1024Mul, ite_self]

/-! The invariant of bm's loop (R273). -/

section
variable {s c b : List Ext} {l lb m n : Nat} {e : Ext} {st : BmState}

/-- c has constant term 1 and degree at most l, and the sum of R273 is 0 from index l to below n. -/
structure Generates (s c : List Ext) (l n : Nat) : Prop where
  one : coeff c 0 = 1#10
  degree : ∀ k, l < k → coeff c k = 0#10
  sum_zero : ∀ k, l ≤ k → k < n → coeff (pmul c s) k = 0#10

/-- Before turn n: b generates the syndromes before index n - m, where its sum is e. For m = n + 1, as at the start, b
stands for a turn before the first. -/
structure FailsAt (s b : List Ext) (lb m : Nat) (e : Ext) (n : Nat) : Prop where
  generates : Generates s b lb (n - m)
  sum_eq : m ≤ n → coeff (pmul b s) (n - m) = e
  ne_zero : e ≠ 0#10
  one_le : 1 ≤ m

/-- Before turn n: C generates the first n syndromes, B failed m turns ago, and the two lengths and m make n + 1. -/
structure BmInvariant (s : List Ext) (st : BmState) (n : Nat) : Prop where
  current : Generates s st.c st.l n
  previous : ∃ lb, lb + st.l + st.m = n + 1 ∧ FailsAt s st.b lb st.m st.disc n

theorem generates_one (s : List Ext) : Generates s [1#10] 0 0 where
  one := rfl
  degree _ hk := coeff_of_length_le hk
  sum_zero _ _ hk := absurd hk (Nat.not_lt_zero _)

theorem Generates.succ (h : Generates s c l n) (hn : coeff (pmul c s) n = 0#10) : Generates s c l (n + 1) where
  one := h.one
  degree := h.degree
  sum_zero k hk hkn := by
    obtain rfl | hlt := (Nat.le_of_lt_succ hkn).eq_or_lt
    · exact hn
    · exact h.sum_zero k hk hlt

theorem FailsAt.succ (h : FailsAt s b lb m e n) : FailsAt s b lb (m + 1) e (n + 1) where
  generates := by simpa using h.generates
  sum_eq hmn := by simpa using h.sum_eq (Nat.le_of_succ_le_succ hmn)
  ne_zero := h.ne_zero
  one_le := Nat.le_succ_of_le h.one_le

/-- q·x^m·B repairs the sum at n, as q·b is the discrepancy, and leaves those before n at 0. -/
theorem Generates.addShifted {l' : Nat} (hc : Generates s c l n) (hb : FailsAt s b lb m e n) (hl : l ≤ l')
    (hlb : m + lb ≤ l') :
    Generates s (addShifted c (gf1024Mul (coeff (pmul c s) n) (gf1024Inv e)) m b) l' (n + 1) where
  one := by
    have := hb.one_le
    rw [coeff_addShifted, if_neg (by omega), hc.one, BitVec.xor_zero]
  degree k hk := by
    rw [coeff_addShifted, hc.degree k (by omega), hb.generates.degree (k - m) (by omega), gf1024Mul_zero, ite_self,
      BitVec.xor_zero]
  sum_zero k hk hkn := by
    rw [coeff_pmul_addShifted, if_pos (by omega)]
    obtain rfl | hlt := (Nat.le_of_lt_succ hkn).eq_or_lt
    · rw [hb.sum_eq (by omega), gf1024Mul_assoc, gf1024Mul_comm (gf1024Inv e), gf1024Mul_gf1024Inv hb.ne_zero,
        gf1024Mul_one, BitVec.xor_self]
    · rw [hc.sum_zero k (by omega) hlt, hb.generates.sum_zero (k - m) (by omega) (by omega), gf1024Mul_zero,
        BitVec.xor_zero]

theorem bmInvariant_init (s : List Ext) : BmInvariant s bmInit 0 where
  current := generates_one s
  previous := ⟨0, rfl, generates_one s, fun h => absurd h (by decide), by decide, le_rfl⟩

theorem BmInvariant.l_le (h : BmInvariant s st n) : st.l ≤ n := by
  obtain ⟨lb, hlen, hprev⟩ := h.previous
  have := hprev.one_le
  omega

theorem BmInvariant.bmDiscrepancy_eq (h : BmInvariant s st n) : bmDiscrepancy s st n = coeff (pmul st.c s) n :=
  (coeff_pmul_eq_of_degree_le h.current.one h.current.degree h.l_le s).symm

theorem bmStep_of_zero (hd : bmDiscrepancy s st n = 0#10) : bmStep s st n = { st with m := st.m + 1 } := if_pos hd

theorem bmStep_of_le (hd : bmDiscrepancy s st n ≠ 0#10) (hl : 2 * st.l ≤ n) :
    bmStep s st n =
      { c := addShifted st.c (gf1024Mul (bmDiscrepancy s st n) (gf1024Inv st.disc)) st.m st.b, b := st.c,
        l := n + 1 - st.l, m := 1, disc := bmDiscrepancy s st n } :=
  (if_neg hd).trans (if_pos hl)

theorem bmStep_of_lt (hd : bmDiscrepancy s st n ≠ 0#10) (hl : n < 2 * st.l) :
    bmStep s st n =
      { st with
        c := addShifted st.c (gf1024Mul (bmDiscrepancy s st n) (gf1024Inv st.disc)) st.m st.b, m := st.m + 1 } :=
  (if_neg hd).trans (if_neg (Nat.not_le.2 hl))

/-- One turn keeps the invariant, in each of R273's three cases. -/
theorem bmInvariant_bmStep (h : BmInvariant s st n) : BmInvariant s (bmStep s st n) (n + 1) := by
  obtain ⟨lb, hlen, hprev⟩ := h.previous
  by_cases hd : bmDiscrepancy s st n = 0#10
  · rw [bmStep_of_zero hd]
    exact ⟨h.current.succ (h.bmDiscrepancy_eq ▸ hd), lb, by simp only; omega, hprev.succ⟩
  · obtain hl | hl := Nat.lt_or_ge n (2 * st.l)
    · rw [bmStep_of_lt hd hl, h.bmDiscrepancy_eq]
      exact ⟨h.current.addShifted (l' := st.l) hprev le_rfl (by omega), lb, by simp only; omega, hprev.succ⟩
    · rw [bmStep_of_le hd hl]
      rw [h.bmDiscrepancy_eq] at hd ⊢
      exact ⟨h.current.addShifted (l' := n + 1 - st.l) hprev (by omega) (by omega), st.l, by simp only; omega,
        h.current, fun _ => rfl, hd, le_rfl⟩

/-- The state of bm once it has taken in all of s. -/
def bmFinal (s : List Ext) : BmState := (List.range s.length).foldl (bmStep s) bmInit

theorem bmInvariant_bmFinal (s : List Ext) : BmInvariant s (bmFinal s) s.length := by
  suffices hturns : ∀ n, BmInvariant s ((List.range n).foldl (bmStep s) bmInit) n from hturns s.length
  intro n
  induction n with
  | zero => exact bmInvariant_init s
  | succ n ih =>
    rw [List.range_succ, List.foldl_append]
    exact bmInvariant_bmStep ih

end

/-! What bm returns (R273). -/

section
variable (s : List Ext)

theorem bm_eq : bm s = ((List.range ((bmFinal s).l + 1)).map (coeff (bmFinal s).c), (bmFinal s).l) := rfl

theorem length_bm_fst : (bm s).1.length = (bm s).2 + 1 := by
  rw [bm_eq, List.length_map, List.length_range]

/-- Cutting C to L + 1 coefficients drops only zeros. -/
theorem coeff_bm_fst (k : Nat) : coeff (bm s).1 k = coeff (bmFinal s).c k := by
  rw [bm_eq, coeff_map_range]
  split
  · rfl
  next hk => exact ((bmInvariant_bmFinal s).current.degree k (Nat.not_lt.1 hk)).symm

theorem coeff_bm_fst_zero : coeff (bm s).1 0 = 1#10 := (coeff_bm_fst s 0).trans (bmInvariant_bmFinal s).current.one

end

/-- Settles O44: the invariant at the end of bm's loop. -/
theorem locatorGeneratesTheSyndromes : Obligations.LocatorGeneratesTheSyndromes := fun s n hl hn => by
  have hgen := (bmInvariant_bmFinal s).current
  simp only [coeff_bm_fst]
  rw [bm_eq] at hl ⊢
  rw [← coeff_pmul_eq_of_degree_le hgen.one hgen.degree hl]
  exact hgen.sum_zero n hl hn

/-! The length L is 0 only on zero syndromes (R274). -/

theorem bmDiscrepancy_of_allZero {s : List Ext} (h : AllZero s) (st : BmState) (n : Nat) :
    bmDiscrepancy s st n = 0#10 := by
  rw [bmDiscrepancy, coeff_of_allZero h, BitVec.zero_xor]
  exact xorSum_eq_zero (List.forall_mem_map.2 fun i _ => by rw [coeff_of_allZero h, gf1024Mul_zero])

theorem bm_snd_of_allZero {s : List Ext} (h : AllZero s) : (bm s).2 = 0 := by
  suffices hkept : ∀ (ks : List Nat) (st : BmState), (ks.foldl (bmStep s) st).l = st.l from hkept _ bmInit
  intro ks
  induction ks with
  | nil => exact fun _ => rfl
  | cons k ks ih => exact fun st => by rw [List.foldl_cons, ih, bmStep_of_zero (bmDiscrepancy_of_allZero h st k)]

theorem allZero_of_bm_snd {s : List Ext} (h : (bm s).2 = 0) : AllZero s := fun y hy => by
  obtain ⟨n, hn, rfl⟩ := List.mem_iff_getElem.1 hy
  have hsum := locatorGeneratesTheSyndromes s n (h ▸ n.zero_le) hn
  rwa [h, List.range_zero, List.map_nil, xorSum_nil, BitVec.xor_zero, coeff_of_lt_length hn] at hsum

/-! The syndromes of one error, and their locator (R282). -/

/-- v, v·x, v·x^2: the syndromes of one error at the position of locator x (R282). -/
def geometric (v x : Ext) : List Ext := [v, gf1024Mul v x, gf1024Mul (gf1024Mul v x) x]

/-- bm's state with the locator 1 + a·x, one turn or more after its length became 1. -/
def linearState (a : Ext) (m : Nat) (v : Ext) : BmState := { c := [1#10, a], b := [1#10], l := 1, m := m, disc := v }

theorem bmDiscrepancy_linearState (s : List Ext) (a : Ext) (m : Nat) (v : Ext) (n : Nat) :
    bmDiscrepancy s (linearState a m v) (n + 1) = coeff s (n + 1) ^^^ gf1024Mul a (coeff s n) :=
  congrArg (coeff s (n + 1) ^^^ ·) BitVec.xor_zero

section
variable {v : Ext} (x : Ext)

theorem bmStep_geometric_zero (hv : v ≠ 0#10) : bmStep (geometric v x) bmInit 0 = linearState v 1 v := by
  have hd : bmDiscrepancy (geometric v x) bmInit 0 = v := BitVec.xor_zero
  have hinv : gf1024Inv bmInit.disc = 1#10 := by decide +kernel
  have hc : addShifted [1#10] v 1 [1#10] = [1#10, v] := by simp [addShifted, List.range_succ, coeff]
  rw [bmStep_of_le (by rwa [hd]) (by decide), hd, hinv, gf1024Mul_one]
  exact congrArg (fun c => BmState.mk c [1#10] 1 1 v) hc

/-- The discrepancy of the second turn is v·(x + v), and the repair adds x + v to the coefficient v. -/
theorem bmStep_geometric_one (hv : v ≠ 0#10) : bmStep (geometric v x) (linearState v 1 v) 1 = linearState x 2 v := by
  have hd : bmDiscrepancy (geometric v x) (linearState v 1 v) 1 = gf1024Mul v (x ^^^ v) := by
    rw [bmDiscrepancy_linearState, gf1024Mul_xor_right]
    rfl
  by_cases hxv : x = v
  · rw [bmStep_of_zero (by rw [hd, hxv, BitVec.xor_self, gf1024Mul_zero]), hxv]
    rfl
  · have hne : bmDiscrepancy (geometric v x) (linearState v 1 v) 1 ≠ 0#10 :=
      hd ▸ gf1024Mul_ne_zero hv (mt BitVec.xor_eq_zero_iff.1 hxv)
    have hq : gf1024Mul (gf1024Mul v (x ^^^ v)) (gf1024Inv v) = x ^^^ v := by
      rw [gf1024Mul_comm v, gf1024Mul_assoc, gf1024Mul_gf1024Inv hv, gf1024Mul_one]
    have hc : addShifted [1#10, v] (gf1024Mul (gf1024Mul v (x ^^^ v)) (gf1024Inv v)) 1 [1#10] = [1#10, x] := by
      rw [hq, BitVec.xor_comm]
      simp [addShifted, List.range_succ, coeff]
    rw [bmStep_of_lt hne Nat.one_lt_two, hd]
    exact congrArg (fun c => BmState.mk c [1#10] 1 2 v) hc

theorem bm_geometric (hv : v ≠ 0#10) : bm (geometric v x) = ([1#10, x], 1) := by
  have hd : bmDiscrepancy (geometric v x) (linearState x 2 v) 2 = 0#10 := by
    rw [bmDiscrepancy_linearState, gf1024Mul_comm]
    exact BitVec.xor_self
  have hfinal : bmFinal (geometric v x) = linearState x 3 v :=
    calc bmFinal (geometric v x)
      _ = bmStep (geometric v x) (bmStep (geometric v x) (bmStep (geometric v x) bmInit 0) 1) 2 := rfl
      _ = linearState x 3 v := by rw [bmStep_geometric_zero x hv, bmStep_geometric_one x hv, bmStep_of_zero hd]; rfl
  rw [bm_eq, hfinal]
  rfl

end

/-! LOC (R274). -/

theorem exec_loc_of_holds {s : State} {rd ra : RegIdx} {syn : List Ext} (hsyn : XmHolds s ra syn) :
    exec (.loc rd ra) s = s.finish (s.putPoly rd (bm syn).1 ((bm syn).2 == 0)) := by
  simp only [exec, execLoc, State.checkXm_of_holds hsyn, State.xmRegion_of_holds hsyn, bind_ok]

/-- Settles O43: L = 0 leaves no syndrome to cancel, and bm is run on three syndromes of one error. -/
theorem locatorCommand : Obligations.LocatorCommand := by
  refine fun s rd ra syn hsyn => ⟨length_bm_fst syn, coeff_bm_fst_zero syn, ⟨allZero_of_bm_snd, bm_snd_of_allZero⟩,
    fun hfits => ?_, fun hfits => ?_, fun v x hv => bm_geometric x hv, by decide +kernel⟩
  · rw [exec_loc_of_holds hsyn]
    exact completes_putPoly (by rwa [length_bm_fst]) beq_iff_eq
  · rw [exec_loc_of_holds hsyn]
    exact faults_putPoly _ (length_bm_fst syn) hfits

end Sys2Proof.Machine
end

/-! The root search and the magnitudes (44_correction.md R275, R277), ROOTS (R276) and FORNEY (R278). -/

section
namespace Sys2Proof.Machine

open Sys2Proof.Claims

section
variable {s : State} {rd ra rb rc : RegIdx}

/-! The faults of their own. -/

theorem State.checkVariant_of_noChecksum (h : s.var = .noChecksum) :
    s.checkVariant = .error (.raise .variant 0#32) := by
  simp only [State.checkVariant, (target_eq_none_iff _).2 h]

theorem checkPositions_raise {before after : List Ext} {p : Ext} (hbefore : ∀ q ∈ before, q.toNat < 1023)
    (hp : 1023 ≤ p.toNat) : checkPositions (before ++ p :: after) = .error (.raise .argRange (p.setWidth 32)) := by
  induction before with
  | nil => exact if_pos hp
  | cons q before ih =>
    obtain ⟨hq, hbefore⟩ := List.forall_mem_cons.1 hbefore
    exact (if_neg (Nat.not_le.2 hq)).trans (ih hbefore)

theorem checkDenominators_raise {c before after : List Ext} {p : Ext}
    (hbefore : ∀ q ∈ before, forneyDen c q.toNat ≠ 0#10) (hp : forneyDen c p.toNat = 0#10) :
    checkDenominators c (before ++ p :: after) = .error (.raise .divZero (p.setWidth 32)) := by
  induction before with
  | nil => exact if_pos hp
  | cons q before ih =>
    obtain ⟨hq, hbefore⟩ := List.forall_mem_cons.1 hbefore
    exact (if_neg hq).trans (ih hbefore)

/-- ROOTS and FORNEY begin with the variant's check (R276, R278). -/
theorem faults_checkVariant {f : Unit → Except Stop State} (h : s.var = .noChecksum) :
    Faults (s.finish (s.checkVariant >>= f)) s 7#8 0#32 := by
  rw [bind_error_of_error (State.checkVariant_of_noChecksum h)]
  rfl

theorem exec_roots_of_lt (hvar : s.var ≠ .noChecksum) (hn : 1023 < (s.getN rb).toNat) :
    exec (.roots rd ra rb) s = .next (s.takeFault .argRange (s.getN rb)) := by
  rw [exec, execRoots, State.checkVariant_of_ne hvar, bind_ok]
  exact congrArg s.finish (if_pos hn)

/-- FORNEY with its sources in range and written: the checks on positions and denominators, then the result. -/
theorem exec_forney_eq {syn c ps : List Ext} (hvar : s.var ≠ .noChecksum) (hsyn : XmHolds s ra syn)
    (hc : XmHolds s rb c) (hps : XmHolds s rc ps) :
    exec (.forney rd ra rb rc) s = s.finish (do
      checkPositions ps
      checkDenominators c ps
      let mag := ps.map fun q => forneyValue syn c q.toNat
      s.putPoly rd mag (zeroOfList mag)) := by
  simp only [exec, execForney, State.checkVariant_of_ne hvar, State.checkXm_of_holds hsyn, State.checkXm_of_holds hc,
    State.checkXm_of_holds hps, State.xmRegion_of_holds hsyn, State.xmRegion_of_holds hc, State.xmRegion_of_holds hps,
    bind_ok]

end

/-- Settles O45: the list of R275 is fixed by its order and its members. -/
theorem rootsCommand : Obligations.RootsCommand := by
  refine fun s rd ra rb => ⟨faults_checkVariant, exec_roots_of_lt, fun c ps hvar hn hc hsorted hmem hfits => ?_⟩
  rw [exec_roots_of_holds hvar hn hc, rootPositions_eq hn hsorted hmem]
  exact completes_putPoly (by rwa [List.length_map]) (by simp)

/-! Forney's formula (R277). -/

theorem betaNeg_of_lt {p : Nat} (hp : p < 1023) : betaNeg p = betaPow ((1023 - p) % 1023) := by
  rw [betaNeg, betaPow, Nat.mod_eq_of_lt hp]

theorem gf1024Mul_forneyValue {c : List Ext} {p : Nat} (hden : forneyDen c p ≠ 0#10) (syn : List Ext) :
    gf1024Mul (forneyValue syn c p) (forneyDen c p) =
      gf1024Mul (betaPow p) (peval ((pmul c syn).take syn.length) (betaNeg p)) := by
  rw [forneyValue, gf1024Mul_assoc, gf1024Mul_comm (gf1024Inv _), gf1024Mul_gf1024Inv hden, gf1024Mul_one]

/-- Settles O46: the checks in the order of R278, and the quotient of R277 times its denominator. -/
theorem forneyCommand : Obligations.ForneyCommand := by
  refine fun s rd ra rb rc => ⟨faults_checkVariant, fun syn c ps hvar hsyn hc hps => ⟨fun hpos hfits => ?_,
    fun before p after hsplit hbefore hp => ?_, fun before p after hsplit hpos hbefore hp => ?_⟩,
    fun syn c d p hp hlen hd => ?_⟩
  · rw [exec_forney_of_holds hvar hsyn hc hps (fun p hp => (hpos p hp).1) fun p hp => (hpos p hp).2]
    exact completes_putPoly (by rwa [List.length_map]) (by simp [zeroOfList_eq_true_iff])
  · rw [exec_forney_eq hvar hsyn hc hps, hsplit, checkPositions_raise hbefore hp, BitVec.ofNat_toNat]
    rfl
  · rw [exec_forney_eq hvar hsyn hc hps, checkPositions_ok hpos, hsplit, checkDenominators_raise hbefore hp,
      BitVec.ofNat_toNat]
    rfl
  · rw [← betaNeg_of_lt hp, eq_pder hlen hd]
    exact ⟨rfl, fun hden => gf1024Mul_forneyValue hden syn⟩

end Sys2Proof.Machine
end

/-! The correction procedure (44_correction.md R279, R282, R283) and CORR (R280, R281). -/

section
namespace Sys2Proof.Machine

open Sys2Proof.Claims

/-! The midstate after one changed symbol (43_lfsr_checksum.md R242, 44_correction.md R270). -/

theorem lfsrFeed_xor (m n : Midstate) (xs : List Sym) :
    lfsrFeed (m ^^^ n) xs = lfsrFeed m xs ^^^ lfsrFeed n (List.replicate xs.length 0#5) := by
  induction xs generalizing m n with
  | nil => rfl
  | cons x xs ih =>
    have hstep : lfsrStep (m ^^^ n) x = lfsrStep m x ^^^ lfsrStep n 0#5 := by rw [← lfsrStep_xor, BitVec.xor_zero]
    exact (congrArg (lfsrFeed · xs) hstep).trans (ih _ _)

/-- The midstate a stream of p + 1 symbols leaves from 0, when only the one at position p is not 0: e·x^p mod g. -/
def errorResidue (p : Nat) (e : Sym) : Midstate := lfsrFeed (lfsrStep 0#30 e) (List.replicate p 0#5)

theorem errorResidue_succ (p : Nat) (e : Sym) : errorResidue (p + 1) e = lfsrStep (errorResidue p e) 0#5 := by
  rw [errorResidue, List.replicate_succ', lfsrFeed, List.foldl_append]
  rfl

theorem lfsrFeed_set (m : Midstate) {xs : List Sym} {i : Nat} (hi : i < xs.length) (e : Sym) :
    lfsrFeed m (xs.set i (xs.getD i 0#5 ^^^ e)) = lfsrFeed m xs ^^^ errorResidue (xs.length - 1 - i) e := by
  induction xs generalizing m i with
  | nil => simp at hi
  | cons x xs ih =>
    cases i with
    | zero =>
      have hstep : lfsrStep m (x ^^^ e) = lfsrStep m x ^^^ lfsrStep 0#30 e := by rw [← lfsrStep_xor, BitVec.xor_zero]
      exact (congrArg (lfsrFeed · xs) hstep).trans (lfsrFeed_xor _ _ xs)
    | succ i =>
      have hi : i < xs.length := Nat.lt_of_succ_lt_succ hi
      have hpos : (x :: xs).length - 1 - (i + 1) = xs.length - 1 - i := by simp only [List.length_cons]; omega
      rw [hpos]
      exact ih (lfsrStep m x) hi

/-- xs with e added to the symbol at position p, counted from the end (44_correction.md R270). -/
def withError (xs : List Sym) (p : Nat) (e : Sym) : List Sym :=
  xs.set (xs.length - 1 - p) (xs.getD (xs.length - 1 - p) 0#5 ^^^ e)

theorem lfsrFeed_withError (m : Midstate) {xs : List Sym} {p : Nat} (hp : p < xs.length) (e : Sym) :
    lfsrFeed m (withError xs p e) = lfsrFeed m xs ^^^ errorResidue p e := by
  have hpos : xs.length - 1 - (xs.length - 1 - p) = p := by omega
  rw [withError, lfsrFeed_set m (by omega), hpos]

/-! The syndromes of a step and of one error (44_correction.md R271, R282). -/

theorem embed_xor (a b : Sym) : embed (a ^^^ b) = embed a ^^^ embed b := BitVec.setWidth_xor

/-- g(x), with its leading term (00_scope.md R22). -/
def generatorPoly : List Ext := (List.range 6).map (fun k => embed (genCoeff k)) ++ [1#10]

theorem peval_generatorPoly : ∀ j < 3, peval generatorPoly (betaPow (24 + j)) = 0#10 := by decide +kernel

/-- m·x + v is the step's result plus m_5·g. -/
theorem coeff_residuePoly_lfsrStep (m : Midstate) (v : Sym) (k : Nat) :
    coeff (residuePoly (lfsrStep m v)) k =
      coeff (embed v :: residuePoly m) k ^^^ gf1024Mul (embed (midCoeff m 5)) (coeff generatorPoly k) := by
  obtain hk | rfl | hk := Nat.lt_trichotomy k 6
  · have hg : coeff generatorPoly k = embed (genCoeff k) := by
      rw [generatorPoly, coeff_append_left (by simpa using hk), coeff_map_range, if_pos hk]
    rw [coeff_residuePoly _ hk, midCoeff_lfsrStep m v hk, embed_xor, embed_gf32Mul, hg]
    cases k with
    | zero => rfl
    | succ k => rw [coeff_cons_succ, coeff_residuePoly m (by omega)]; rfl
  · have hg : coeff generatorPoly 6 = 1#10 := rfl
    rw [hg, gf1024Mul_one, coeff_cons_succ, coeff_residuePoly m (by decide), BitVec.xor_self]
    exact coeff_of_length_le le_rfl
  · have hbeyond {p : List Ext} (hp : p.length ≤ 7) : coeff p k = 0#10 := coeff_of_length_le (hp.trans hk)
    rw [hbeyond (by simp [length_residuePoly]), hbeyond (by simp [length_residuePoly]),
      hbeyond (by simp [generatorPoly]), gf1024Mul_zero, BitVec.xor_zero]

theorem syndromeAt_lfsrStep (m : Midstate) (v : Sym) {j : Nat} (hj : j < 3) :
    syndromeAt (lfsrStep m v) j = gf1024Mul (syndromeAt m j) (betaPow (24 + j)) ^^^ embed v := by
  rw [syndromeAt_eq, peval_eq_of_coeff (coeff_residuePoly_lfsrStep m v), peval_generatorPoly j hj, gf1024Mul_zero,
    BitVec.xor_zero]
  rfl

theorem syndromeAt_xor (m n : Midstate) (j : Nat) : syndromeAt (m ^^^ n) j = syndromeAt m j ^^^ syndromeAt n j := by
  rw [syndromeAt]
  simp only [midCoeff_xor, embed_xor]
  exact peval_zipWith_xor (p := residuePoly m) (q := residuePoly n) rfl _

/-- Residues with the same syndromes differ by a residue whose syndromes are 0. -/
theorem syndromes_injective : Function.Injective syndromes := fun m n h => by
  rw [syndromes_eq_map, syndromes_eq_map] at h
  have hj (j : Nat) (hj : j < 3) : syndromeAt m j = syndromeAt n j :=
    List.map_inj_left.1 h j (List.mem_range.2 hj)
  refine BitVec.xor_eq_zero_iff.1 ((zeroSyndromesIffValid (m ^^^ n)).1 fun j hj3 => ?_)
  rw [syndromeAt_xor, hj j hj3, BitVec.xor_self]

theorem syndromeAt_errorResidue (p : Nat) (e : Sym) {j : Nat} (hj : j < 3) :
    syndromeAt (errorResidue p e) j = gf1024Mul (embed e) (betaPow ((24 + j) * p)) := by
  induction p with
  | zero =>
    have hinit : errorResidue 0 e = lfsrStep 0#30 e := rfl
    have hone : betaPow ((24 + j) * 0) = 1#10 := rfl
    rw [hinit, syndromeAt_lfsrStep _ _ hj, syndromeAt_zero j hj, zero_gf1024Mul, BitVec.zero_xor, hone, gf1024Mul_one]
  | succ p ih =>
    have hzero : embed 0#5 = 0#10 := rfl
    rw [errorResidue_succ, syndromeAt_lfsrStep _ _ hj, ih, hzero, BitVec.xor_zero, gf1024Mul_assoc, ← betaPow_add,
      Nat.mul_succ]

theorem geometric_betaPow (u : Ext) (p : Nat) :
    geometric (gf1024Mul u (betaPow (24 * p))) (betaPow p) =
      (List.range 3).map fun j => gf1024Mul u (betaPow ((24 + j) * p)) := by
  have hone : 24 * p + p = (24 + 1) * p := by omega
  have htwo : (24 + 1) * p + p = (24 + 2) * p := by omega
  rw [geometric, gf1024Mul_assoc, ← betaPow_add, hone, gf1024Mul_assoc, ← betaPow_add, htwo]
  rfl

theorem syndromes_errorResidue (p : Nat) (e : Sym) :
    syndromes (errorResidue p e) = geometric (gf1024Mul (embed e) (betaPow (24 * p))) (betaPow p) := by
  rw [syndromes_eq_map, geometric_betaPow]
  exact List.map_congr_left fun j hj => syndromeAt_errorResidue p e (List.mem_range.1 hj)

/-! One error's position and magnitude (44_correction.md R275, R277). -/

theorem gf1024Mul_left_cancel {x y z : Ext} (hx : x ≠ 0#10) (h : gf1024Mul x y = gf1024Mul x z) : y = z := by
  refine BitVec.xor_eq_zero_iff.1 (((gf1024Mul_eq_zero_iff x (y ^^^ z)).1 ?_).resolve_left hx)
  rw [gf1024Mul_xor_right, h, BitVec.xor_self]

theorem gf1024Mul_betaPow_betaNeg {p : Nat} (hp : p < 1023) : gf1024Mul (betaPow p) (betaNeg p) = 1#10 := by
  rw [betaNeg_of_lt hp, ← betaPow_add, betaPow_eq_one_iff]
  omega

theorem peval_linear_betaNeg_eq_zero_iff (x : Ext) {p : Nat} (hp : p < 1023) :
    peval [1#10, x] (betaNeg p) = 0#10 ↔ x = betaPow p := by
  have hpeval : peval [1#10, x] (betaNeg p) = gf1024Mul (betaNeg p) x ^^^ 1#10 := by
    simp [peval, gf1024Mul_comm x]
  have hone : gf1024Mul (betaNeg p) (betaPow p) = 1#10 := gf1024Mul_comm _ _ ▸ gf1024Mul_betaPow_betaNeg hp
  have hne : betaNeg p ≠ 0#10 := betaPow_ne_zero _
  rw [hpeval, BitVec.xor_eq_zero_iff, ← hone]
  exact ⟨gf1024Mul_left_cancel hne, fun h => h ▸ rfl⟩

theorem rootPositions_linear {p n : Nat} (hp : p < n) (hn : n ≤ 1023) : rootPositions [1#10, betaPow p] n = [p] := by
  refine rootPositions_eq hn (List.pairwise_singleton _ p) fun i => ?_
  rw [List.mem_singleton]
  constructor
  · rintro rfl
    rw [← betaNeg_of_lt (hp.trans_le hn)]
    exact ⟨hp, (peval_linear_betaNeg_eq_zero_iff _ (hp.trans_le hn)).2 rfl⟩
  · rintro ⟨hi, hroot⟩
    rw [← betaNeg_of_lt (hi.trans_le hn), peval_linear_betaNeg_eq_zero_iff _ (hi.trans_le hn)] at hroot
    exact betaPow_injOn (by simpa using hi.trans_le hn) (by simpa using hp.trans_le hn) hroot.symm

/-- The only root of 1 + x·X is found only where x is its position's power. -/
theorem of_rootPositions_linear {x : Ext} {p n : Nat} (hn : n ≤ 1023) (h : rootPositions [1#10, x] n = [p]) :
    p < n ∧ x = betaPow p := by
  have hmem : p ∈ rootPositions [1#10, x] n := h ▸ List.mem_singleton_self p
  rw [rootPositions, List.mem_filter, List.mem_range, beq_iff_eq] at hmem
  obtain ⟨hp, hroot⟩ := hmem
  exact ⟨hp, (peval_linear_betaNeg_eq_zero_iff x (hp.trans_le hn)).1 hroot⟩

theorem gf1024Pow_betaPow (p n : Nat) : gf1024Pow (betaPow p) n = betaPow (n * p) :=
  mulBy_injective (by rw [mulBy_gf1024Pow, mulBy_betaPow, mulBy_betaPow, ← pow_mul, Nat.mul_comm])

/-- C' = X, so the denominator is X^24·X. -/
theorem forneyDen_linear (p : Nat) : forneyDen [1#10, betaPow p] p = gf1024Mul (betaPow p) (betaPow (24 * p)) := by
  have hderiv : pder [1#10, betaPow p] = [betaPow p] := rfl
  rw [forneyDen, hderiv, gf1024Pow_betaPow, gf1024Mul_comm]
  simp [peval, firstExponent]

/-- (1 + x·X)·(v + v·x·X + v·x^2·X^2) is v up to X^3. -/
theorem take_pmul_geometric (v x : Ext) : (pmul [1#10, x] (geometric v x)).take 3 = [v, 0#10, 0#10] := by
  simp [pmul, geometric, List.range_succ, coeff, gf1024Mul_comm 1#10, gf1024Mul_comm x]

/-- Of one error the magnitude is v/X^24. -/
theorem forneyValue_geometric (v : Ext) (p : Nat) :
    gf1024Mul (forneyValue (geometric v (betaPow p)) [1#10, betaPow p] p) (betaPow (24 * p)) = v := by
  have hne : forneyDen [1#10, betaPow p] p ≠ 0#10 :=
    forneyDen_linear p ▸ gf1024Mul_ne_zero (betaPow_ne_zero p) (betaPow_ne_zero _)
  have homega : peval ((pmul [1#10, betaPow p] (geometric v (betaPow p))).take 3) (betaNeg p) = v := by
    simp [take_pmul_geometric, peval]
  refine gf1024Mul_left_cancel (betaPow_ne_zero p) ?_
  calc gf1024Mul (betaPow p) (gf1024Mul _ (betaPow (24 * p)))
    _ = gf1024Mul (forneyValue (geometric v (betaPow p)) [1#10, betaPow p] p) (forneyDen [1#10, betaPow p] p) := by
      rw [forneyDen_linear, ← gf1024Mul_assoc, ← gf1024Mul_assoc, gf1024Mul_comm (betaPow p)]
    _ = gf1024Mul (betaPow p) v := by
      rw [gf1024Mul_forneyValue hne]
      exact congrArg (gf1024Mul (betaPow p)) homega

/-- A locator of length 1 makes three syndromes geometric (R279). -/
theorem eq_geometric_of_bm {syn : List Ext} (hlen : syn.length = 3) (h : (bm syn).2 = 1) :
    ∃ v x, (bm syn).1 = [1#10, x] ∧ syn = geometric v x := by
  obtain ⟨c0, x, hc⟩ := List.length_eq_two.1 ((length_bm_fst syn).trans (congrArg (· + 1) h))
  have hone : c0 = 1#10 := by simpa [hc] using coeff_bm_fst_zero syn
  have hgen (n : Nat) (hn : 1 ≤ n) (hlt : n < syn.length) : coeff syn n = gf1024Mul (coeff syn (n - 1)) x := by
    have hsum := locatorGeneratesTheSyndromes syn n (h ▸ hn) hlt
    rw [h, hc] at hsum
    rw [gf1024Mul_comm]
    exact BitVec.xor_eq_zero_iff.1 (by simpa using hsum)
  obtain ⟨s0, s1, s2, rfl⟩ := List.length_eq_three.1 hlen
  have h1 : s1 = gf1024Mul s0 x := hgen 1 le_rfl (by decide : 1 < 3)
  have h2 : s2 = gf1024Mul s1 x := hgen 2 one_le_two (by decide : 2 < 3)
  exact ⟨s0, x, by rw [hc, hone], by rw [geometric, ← h1, ← h2]⟩

/-! What the correction procedure finds (R279). -/

theorem eq_embed_lowCoord {x : Ext} (h : highCoord x = 0#5) : x = embed (lowCoord x) := by
  rw [embed_eq_extOf, ← h, extOf_lowCoord_highCoord]

theorem lowCoord_embed (e : Sym) : lowCoord (embed e) = e := by
  rw [embed_eq_extOf, lowCoord_extOf]

theorem highCoord_embed (e : Sym) : highCoord (embed e) = 0#5 := by
  rw [embed_eq_extOf, highCoord_extOf]

/-- The outcomes of R279: a residue of 0, a fix that passes every test, and anything else. -/
theorem correctResidue_cases (d : Midstate) (n : Nat) :
    (d = 0#30 ∧ correctResidue d n = (.ok, none)) ∨ (d ≠ 0#30 ∧ correctResidue d n = (.uncorrectable, none)) ∨
    ∃ p e, (bm (syndromes d)).2 = 1 ∧ rootPositions (bm (syndromes d)).1 n = [p] ∧
      forneyValue (syndromes d) (bm (syndromes d)).1 p = embed e ∧ e ≠ 0#5 ∧
      correctResidue d n = (.ok, some (p, e)) := by
  have hzero : zeroOfList (syndromes d) = true ↔ d = 0#30 :=
    (zeroOfList_syndromes_eq_true_iff d).trans (zeroSyndromesIffValid d)
  simp only [correctResidue, hzero]
  by_cases hd : d = 0#30
  · exact .inl ⟨hd, if_pos hd⟩
  rw [if_neg hd]
  by_cases hl : (bm (syndromes d)).2 = 1
  · rw [if_neg (not_not.2 hl)]
    split
    next p hroots =>
      by_cases hbase : highCoord (forneyValue (syndromes d) (bm (syndromes d)).1 p) ≠ 0#5 ∨
        forneyValue (syndromes d) (bm (syndromes d)).1 p = 0#10
      · exact .inr (.inl ⟨hd, if_pos hbase⟩)
      · obtain ⟨hhigh, hne⟩ := not_or.1 hbase
        have hvalue := eq_embed_lowCoord (not_not.1 hhigh)
        exact .inr (.inr ⟨p, _, hl, hroots, hvalue, fun hlow => hne (by rw [hvalue, hlow]; rfl), if_neg hbase⟩)
    next => exact .inr (.inl ⟨hd, rfl⟩)
  · exact .inr (.inl ⟨hd, if_pos hl⟩)

theorem eq_ite_of_correctResidue {d : Midstate} {n : Nat} {r : ResultCode} (h : correctResidue d n = (r, none)) :
    r = if d = 0#30 then .ok else .uncorrectable := by
  obtain ⟨hd, hout⟩ | ⟨hd, hout⟩ | ⟨p, e, -, -, -, -, hout⟩ := correctResidue_cases d n
  · rw [if_pos hd]
    cases h.symm.trans hout
    rfl
  · rw [if_neg hd]
    cases h.symm.trans hout
    rfl
  · cases h.symm.trans hout

/-- A fix is found only where its one error leaves exactly the residue: it reproduces all three syndromes (R279). -/
theorem eq_errorResidue_of_correctResidue {d : Midstate} {n p : Nat} {r : ResultCode} {e : Sym} (hn : n ≤ 1023)
    (h : correctResidue d n = (r, some (p, e))) : r = .ok ∧ p < n ∧ e ≠ 0#5 ∧ d = errorResidue p e := by
  obtain ⟨-, hout⟩ | ⟨-, hout⟩ | ⟨q, f, hl, hroots, hvalue, hf, hout⟩ := correctResidue_cases d n
  · cases h.symm.trans hout
  · cases h.symm.trans hout
  · cases h.symm.trans hout
    obtain ⟨v, x, hc, hsyn⟩ := eq_geometric_of_bm rfl hl
    rw [hc] at hroots hvalue
    obtain ⟨hp, rfl⟩ := of_rootPositions_linear hn hroots
    have hv : gf1024Mul (embed e) (betaPow (24 * p)) = v := by
      rw [← hvalue, hsyn, forneyValue_geometric]
    exact ⟨rfl, hp, hf, syndromes_injective (by rw [hsyn, syndromes_errorResidue, hv])⟩

/-- The syndromes of one error give its locator, its position and its magnitude (R282). -/
theorem correctResidue_errorResidue {p n : Nat} {e : Sym} (hp : p < n) (hn : n ≤ 1023) (he : e ≠ 0#5) :
    correctResidue (errorResidue p e) n = (.ok, some (p, e)) := by
  let v := gf1024Mul (embed e) (betaPow (24 * p))
  have hembed : embed e ≠ 0#10 := fun hzero => he (embed_injective hzero)
  have hv : v ≠ 0#10 := gf1024Mul_ne_zero hembed (betaPow_ne_zero _)
  have hsyn : syndromes (errorResidue p e) = geometric v (betaPow p) := syndromes_errorResidue p e
  have hnonzero : zeroOfList (geometric v (betaPow p)) = false := by simp [zeroOfList, geometric, hv]
  have hvalue : forneyValue (geometric v (betaPow p)) [1#10, betaPow p] p = embed e := by
    refine gf1024Mul_left_cancel (betaPow_ne_zero (24 * p)) ?_
    rw [gf1024Mul_comm, forneyValue_geometric, gf1024Mul_comm]
  simp only [correctResidue, hsyn, bm_geometric (betaPow p) hv, rootPositions_linear hp hn, hvalue, highCoord_embed,
    lowCoord_embed, hnonzero]
  simp [hembed]

/-- Settles O49: one changed symbol leaves the residue of one error. -/
theorem singleErrorIsCorrected : Obligations.SingleErrorIsCorrected := by
  intro var tgt xs p e _ _ hlen hvalid hp he
  have hresidue : lfsrFeed (initMidstate var) (withError xs p e) ^^^ tgt = errorResidue p e := by
    rw [lfsrFeed_withError _ hp, lfsrFeed, hvalid, BitVec.xor_comm, ← BitVec.xor_assoc, BitVec.xor_self,
      BitVec.zero_xor]
  exact (congrArg (correctResidue · xs.length) hresidue).trans (correctResidue_errorResidue hp hlen he)

/-! CORR (R280, R281). -/

theorem toNat_append_eq_add {m n : Nat} (x : BitVec m) (y : BitVec n) :
    (x ++ y).toNat = x.toNat * 2 ^ n + y.toNat := by
  rw [BitVec.toNat_append, ← Nat.shiftLeft_add_eq_or_of_lt y.isLt, Nat.shiftLeft_eq]

theorem correctionWord_some {p : Nat} (e : Sym) (hp : p < 2 ^ 10) :
    correctionWord (some (p, e)) = BitVec.ofNat 32 (2 ^ 16 + e.toNat * 2 ^ 10 + p) := by
  have hword : correctionWord (some (p, e)) = 0x0001#16 ++ 0#1 ++ e ++ BitVec.ofNat 10 p := rfl
  refine BitVec.eq_of_toNat_eq ?_
  rw [hword]
  simp only [toNat_append_eq_add, BitVec.toNat_ofNat]
  omega

section
variable {s : State} {rd ra : RegIdx} {xs : List Sym}

/-- CORR's report is made of a state that differs from s in SM at most. -/
theorem reports_reportFix (m : Memory 5) (r : ResultCode) (fix : Option (Nat × Sym)) :
    Reports s rd r (correctionWord fix) (State.reportFix { s with sm := m } rd r fix) := by
  refine ⟨State.getN_setN_same _ rd _, fun k hk => State.getN_setN_other _ _ hk, rfl, beq_iff_eq, beq_iff_eq, rfl,
    fun _ => rfl, fun _ => rfl, ?_⟩
  simp [State.reportFix, KeepsXm, KeepsCm, KeepsPass, KeepsControl, KeepsFaultRegs, KeepsRun, KeepsModel]

theorem exec_corr_of_noChecksum (hxs : SmHolds s ra xs) (hvar : s.var = .noChecksum) :
    exec (.corr rd ra) s = .next (s.reportFix rd .ok none) := by
  simp only [exec, execCorr, State.checkSm_of_holds hxs, State.smRegion_of_holds hxs, bind_ok,
    (target_eq_none_iff _).2 hvar, pure_ok, State.finish_ok]

theorem exec_corr_of_length (hxs : SmHolds s ra xs) (hvar : s.var ≠ .noChecksum)
    (hlen : xs.length < 6 ∨ 1023 < xs.length) :
    exec (.corr rd ra) s = .next (s.reportFix rd .degenerateInput none) := by
  obtain ⟨tgt, htgt⟩ := exists_target hvar
  simp only [exec, execCorr, State.checkSm_of_holds hxs, State.smRegion_of_holds hxs, bind_ok, htgt, pure_ok]
  exact congrArg s.finish (if_pos hlen)

theorem initMidstate_of_target {var : Variant} {tgt : Midstate} (htgt : target var = some tgt) :
    initMidstate var = 1#30 :=
  (initMidstate_eq var).trans (if_neg (var_ne_noChecksum_of_target htgt))

theorem exec_corr_of_target {tgt : Midstate} {r : ResultCode} {fix : Option (Nat × Sym)} (hxs : SmHolds s ra xs)
    (htgt : target s.var = some tgt) (hmin : 6 ≤ xs.length) (hmax : xs.length ≤ 1023)
    (hout : correctResidue (xs.foldl lfsrStep 1#30 ^^^ tgt) xs.length = (r, fix)) :
    exec (.corr rd ra) s = .next ((s.applyFix (descBase (s.getN ra)) xs fix).reportFix rd r fix) := by
  have hlen : ¬(xs.length < 6 ∨ 1023 < xs.length) := by omega
  have hfeed : correctResidue (lfsrFeed 1#30 xs ^^^ tgt) xs.length = (r, fix) := hout
  simp only [exec, execCorr, State.checkSm_of_holds hxs, State.smRegion_of_holds hxs, bind_ok, htgt, pure_ok,
    initMidstate_of_target htgt, hfeed]
  exact congrArg s.finish (if_neg hlen)

end

/-- Settles O47: each outcome of R280, with the fix that R279 finds. -/
theorem correctCommand : Obligations.CorrectCommand := by
  refine fun s rd ra => ⟨faults_checkSm, fun xs hxs hvar => ?_, fun xs hxs hvar hlen => ?_,
    fun xs tgt hxs htgt hmin hmax => ⟨fun r hout => ⟨?_, ?_⟩, fun r p e hout => ?_⟩⟩
  · exact ⟨_, exec_corr_of_noChecksum hxs hvar, reports_reportFix s.sm .ok none, fun _ => rfl⟩
  · exact ⟨_, exec_corr_of_length hxs hvar hlen, reports_reportFix s.sm .degenerateInput none, fun _ => rfl⟩
  · rw [eq_ite_of_correctResidue hout]
    exact if_congr BitVec.xor_eq_zero_iff rfl rfl
  · exact ⟨_, exec_corr_of_target hxs htgt hmin hmax hout, reports_reportFix s.sm r none, fun _ => rfl⟩
  · obtain ⟨rfl, hp, he, -⟩ := eq_errorResidue_of_correctResidue hmax hout
    refine ⟨rfl, hp, he, _, exec_corr_of_target hxs htgt hmin hmax hout, ?_, stored_writeList s.sm _ [_]⟩
    rw [← correctionWord_some e (by omega)]
    exact reports_reportFix _ .ok (some (p, e))

/-- The fixed symbol is where R280 writes it, and the others are the region's. -/
theorem read?_write_withError {m : Memory 5} {base p : Nat} {xs : List Sym} (hp : p < xs.length)
    (hxs : ∀ j (h : j < xs.length), m.read? (base + j) = some xs[j]) (e : Sym) :
    ∀ j (h : j < (withError xs p e).length),
      (m.write (base + xs.length - 1 - p) (xs.getD (xs.length - 1 - p) 0#5 ^^^ e)).read? (base + j) =
        some (withError xs p e)[j] := by
  intro j hj
  have hlen : j < xs.length := by simpa [withError] using hj
  have haddr : base + xs.length - 1 - p = base + (xs.length - 1 - p) := by omega
  simp only [withError, List.getElem_set, haddr]
  split
  next h => rw [h, Memory.read?_write_same]
  next h => rw [Memory.read?_write_other m _ (by omega), hxs j hlen]

/-- Settles O48: where CORR reports OK the residue was 0, or the fix takes away the one error that leaves it. -/
theorem correctedStreamIsValid : Obligations.CorrectedStreamIsValid := by
  intro s t rd ra xs hxs hvar hexec hrc
  obtain ⟨tgt, htgt⟩ := exists_target hvar
  by_cases hlen : xs.length < 6 ∨ 1023 < xs.length
  · cases hexec.symm.trans (exec_corr_of_length hxs hvar hlen)
    exact ResultCode.noConfusion hrc
  have hmax : xs.length ≤ 1023 := by omega
  obtain ⟨⟨r, fix⟩, hout⟩ : ∃ out, correctResidue (xs.foldl lfsrStep 1#30 ^^^ tgt) xs.length = out := ⟨_, rfl⟩
  cases hexec.symm.trans (exec_corr_of_target hxs htgt (by omega) hmax hout)
  obtain rfl : r = .ok := hrc
  obtain ⟨-, -, hread⟩ := hxs
  rw [htgt, initMidstate_of_target htgt]
  obtain _ | ⟨p, e⟩ := fix
  · have hzero : xs.foldl lfsrStep 1#30 ^^^ tgt = 0#30 :=
      of_not_not fun hne => ResultCode.noConfusion ((eq_ite_of_correctResidue hout).trans (if_neg hne))
    exact ⟨xs, rfl, hread, congrArg some (BitVec.xor_eq_zero_iff.1 hzero).symm⟩
  · obtain ⟨-, hp, -, hresidue⟩ := eq_errorResidue_of_correctResidue hmax hout
    refine ⟨withError xs p e, List.length_set, read?_write_withError hp hread e, congrArg some ?_⟩
    have hfeed := lfsrFeed_withError 1#30 hp e
    simp only [← hresidue, lfsrFeed, ← BitVec.xor_assoc, BitVec.xor_self, BitVec.zero_xor] at hfeed
    exact hfeed.symm

end Sys2Proof.Machine
end

/-! The sequencer's commands, the integer commands and the data movement (45_sequencer_data.md R300-R311). -/

section
namespace Sys2Proof.Machine

open Sys2Proof.Claims

/-! LDS, STS, LDX and STX (R307-R310): the range check of the address, then one word of memory. -/

section
variable {s t : State} {c : FaultCode} {size a w : Nat}

theorem checkAddr_bind_of_lt {f : Unit → Except Stop State} (ha : a < size) : (checkAddr c size a >>= f) = f () := by
  rw [checkAddr_ok.2 ha, bind_ok]

theorem faults_checkAddr_smRange {f : Unit → Except Stop State} (ha : size ≤ a) :
    Faults (s.finish (checkAddr .smRange size a >>= f)) s 3#8 (BitVec.ofNat 32 a) :=
  faults_of_smRange (bind_error_of_error (checkAddr_raise .smRange ha))

theorem faults_checkAddr_xmRange {f : Unit → Except Stop State} (ha : size ≤ a) :
    Faults (s.finish (checkAddr .xmRange size a >>= f)) s 4#8 (BitVec.ofNat 32 a) :=
  faults_of_xmRange (bind_error_of_error (checkAddr_raise .xmRange ha))

theorem readWord_bind_of_some {m : Memory w} {r : Nat → Refusal} {x : BitVec w} {f : BitVec w → Except Stop State}
    (hx : m.read? a = some x) : (readWord m r a >>= f) = f x := by
  rw [readWord_ok.2 hx, bind_ok]

theorem readWord_bind_of_none {m : Memory w} {r : Nat → Refusal} {f : BitVec w → Except Stop State}
    (hx : m.read? a = none) : (readWord m r a >>= f) = .error (.refuse (r a)) :=
  bind_error_of_error (readWord_of_none r hx)

theorem setSm_advance_effect {x : Sym} (ht : t = (s.setSm a x).advance) :
    Stored s.sm t.sm a [x] ∧ KeepsXm s t ∧ KeepsCm s t ∧ KeepsRegs s t ∧ t.z = s.z ∧ t.pc = s.pc + 1#16 ∧
    KeepsPass s t ∧ KeepsResult s t ∧ KeepsControl s t := by
  subst ht
  refine ⟨stored_writeList s.sm a [x], ?_⟩
  simp [KeepsXm, KeepsCm, KeepsRegs, KeepsB, KeepsE, KeepsN, KeepsPass, KeepsResult, KeepsControl, KeepsFaultRegs,
    KeepsRun, KeepsModel]

theorem setXm_advance_effect {x : Ext} (ht : t = (s.setXm a x).advance) :
    Stored s.xm t.xm a [x] ∧ KeepsSm s t ∧ KeepsCm s t ∧ KeepsRegs s t ∧ t.z = s.z ∧ t.pc = s.pc + 1#16 ∧
    KeepsPass s t ∧ KeepsResult s t ∧ KeepsControl s t := by
  subst ht
  refine ⟨stored_writeList s.xm a [x], ?_⟩
  simp [KeepsSm, KeepsCm, KeepsRegs, KeepsB, KeepsE, KeepsN, KeepsPass, KeepsResult, KeepsControl, KeepsFaultRegs,
    KeepsRun, KeepsModel]

end

/-- Settles O16: out of range the check raises; in range the word read, or its absence, decides. -/
theorem loadCommands : Obligations.LoadCommands := by
  refine fun s rd ra imm => ⟨fun x hea hx => ?_, fun x hea hx => ?_, faults_checkAddr_smRange, faults_checkAddr_xmRange,
    fun hea hx => ?_, fun hea hx => ?_, ?_⟩
  · simp only [exec, execLds, checkAddr_bind_of_lt hea, readWord_bind_of_some hx]
    exact completes_putB x
  · simp only [exec, execLdx, checkAddr_bind_of_lt hea, readWord_bind_of_some hx]
    exact completes_putE x
  · simp only [exec, execLds, checkAddr_bind_of_lt hea, readWord_bind_of_none hx, State.finish_refuse]
  · simp only [exec, execLdx, checkAddr_bind_of_lt hea, readWord_bind_of_none hx, State.finish_refuse]
  · rw [State.ea, descBase_eq]

/-- Settles O17: out of range the check raises; in range one word is written. -/
theorem storeCommands : Obligations.StoreCommands := by
  refine fun s rd ra imm => ⟨fun hea => ?_, fun hea => ?_, faults_checkAddr_smRange, faults_checkAddr_xmRange⟩
  · simp only [exec, execSts, checkAddr_bind_of_lt hea]
    exact ⟨_, rfl, setSm_advance_effect rfl⟩
  · simp only [exec, execStx, checkAddr_bind_of_lt hea]
    exact ⟨_, rfl, setXm_advance_effect rfl⟩

/-! The fetch of a command (R311). -/

theorem runCommand_of_decoded {s : State} {w : Word} {i : Instr} (hfetch : s.fetch = .ok w) (hd : decode w = .ok i) :
    s.runCommand = exec i s := by
  simp only [State.runCommand, hfetch, hd]

/-- Settles O8: the fetch reads the word at PC, before and after the turn is taken off the host's list. -/
theorem stepRunsTheDecodedCommand : Obligations.StepRunsTheDecodedCommand := by
  intro s u w i hfetching hpc hw hd
  obtain ⟨hstep, hupc, hucm⟩ := step_of_fetching hfetching
  rw [hstep, runCommand_of_decoded (State.fetch_of_word (hupc ▸ hpc) (hupc ▸ hucm ▸ hw)) hd]

/-! HALT and NOP (R300, R301), and the interrupt (60_exceptions.md R350). -/

theorem State.irq_eq_true_iff (s : State) : s.irq = true ↔ s.ie = true ∧ (s.done = true ∨ s.err = true) := by
  rw [State.irq, Bool.and_eq_true, Bool.or_eq_true]

theorem keeps_halt (s : State) :
    KeepsRegs s s.halt ∧ KeepsMem s s.halt ∧ KeepsPass s s.halt ∧ KeepsResult s s.halt ∧ KeepsFaultRegs s s.halt ∧
    KeepsModel s s.halt := by
  simp [KeepsRegs, KeepsB, KeepsE, KeepsN, KeepsMem, KeepsSm, KeepsXm, KeepsCm, KeepsPass, KeepsResult, KeepsFaultRegs,
    KeepsModel]

/-- Settles O12: HALT raises IRQ through DONE, and NOP is an advance. -/
theorem haltAndNop : Obligations.HaltAndNop :=
  ⟨fun s => ⟨s.halt, rfl, rfl, rfl, rfl, rfl, fun hie => s.halt.irq_eq_true_iff.2 ⟨hie, .inl rfl⟩, rfl, rfl, rfl, rfl,
    keeps_halt s⟩, fun _ => ⟨_, rfl, onlyPc_advance⟩, State.irq_eq_true_iff⟩

/-! DBNZ (R303). -/

theorem exec_dbnz (s : State) (rd : RegIdx) (dest : BitVec 16) :
    exec (.dbnz rd dest) s = .next ((s.setN rd (s.getN rd - 1#32)).jump
      (if (s.getN rd).toNat = 1 then s.pc + 1#16 else dest)) := by
  have hzero : s.getN rd - 1#32 = 0#32 ↔ (s.getN rd).toNat = 1 := by bv_omega
  simp only [exec, execDbnz, ne_eq, hzero, ite_not]
  split
  · rfl
  · rfl

/-- Settles O14: the counter is 0 after the decrement iff it was 1. -/
theorem dbnzCountsDown : Obligations.DbnzCountsDown := by
  refine fun s rd dest => ⟨_, exec_dbnz s rd dest, ?_, fun r hr => s.getN_setN_other _ hr, rfl, rfl, ?_⟩
  · have hdec : (s.getN rd - 1#32).toNat = ((s.getN rd).toNat + (2 ^ 32 - 1)) % 2 ^ 32 := by bv_omega
    simpa using hdec
  · simp [KeepsB, KeepsE, KeepsMem, KeepsSm, KeepsXm, KeepsCm, KeepsPass, KeepsResult, KeepsControl, KeepsFaultRegs,
      KeepsRun, KeepsModel]

/-! LIN, LHN and NADDI (R304-R306). -/

theorem append_extractLsb'_eq_ofNat (imm : BitVec 16) (x : Word) :
    imm ++ x.extractLsb' 0 16 = BitVec.ofNat 32 (imm.toNat * 2 ^ 16 + x.toNat % 2 ^ 16) := by
  refine BitVec.eq_of_toNat_eq ?_
  rw [toNat_append_eq_add, BitVec.extractLsb'_toNat, BitVec.toNat_ofNat]
  omega

theorem add_signExtend_eq_ofInt (x : Word) (imm : BitVec 16) :
    x + imm.signExtend 32 = BitVec.ofInt 32 (x.toNat + imm.toInt) := by
  rw [BitVec.ofInt_add, BitVec.ofInt_natCast, BitVec.ofNat_toNat, BitVec.setWidth_eq, BitVec.signExtend]

/-- Settles O15: each command ends in putN of a word that is the claimed number. -/
theorem integerCommands : Obligations.IntegerCommands := fun s rd ra imm =>
  ⟨BitVec.ofNat_toNat 32 imm ▸ completes_putN _, append_extractLsb'_eq_ofNat imm (s.getN rd) ▸ completes_putN _,
    add_signExtend_eq_ofInt (s.getN ra) imm ▸ completes_putN _⟩

end Sys2Proof.Machine
end

/-! Exceptions (60_exceptions.md R341-R345, R352): how a command may stop, STOP, and the fetch beyond CM. -/

section
namespace Sys2Proof.Machine

open Sys2Proof.Claims

/-! A CTRL write without SRST, and the abort at the next boundary (R344; 10_state.md R47, R51). -/

section
variable {s u : State} {x : Word} {rest : List HostEvent}

/-- CTRL is the one offset that a write reaches whether the unit runs or not (20_memory.md R77). -/
theorem State.hostWrite_ctrl (s : State) (x : Word) : s.hostWrite .ctrl x = s.writeCtrl x := by
  unfold State.hostWrite
  split <;> rfl

theorem State.writeCtrl_of_no_softReset (s : State) (h : x.getLsbD 2 = false) :
    s.writeCtrl x = { s with ie := x.getLsbD 0, stopReq := s.busy && (s.stopReq || x.getLsbD 1) } :=
  if_neg (by rw [h]; decide)

theorem step_of_ctrl_write (h : HostWrites s 0x0004#16 x rest) (hsrst : x.getLsbD 2 = false) :
    step s = .next
      { s with host := rest, ie := x.getLsbD 0, stopReq := s.busy && (s.stopReq || x.getLsbD 1) } := by
  rw [step_of_hostWrites h (by decide) (tg := .ctrl) (by decide), State.hostWrite_ctrl,
    State.writeCtrl_of_no_softReset _ hsrst]

theorem sequencerStep_of_stopReq (hbusy : s.busy = true) (hstop : s.stopReq = true) :
    s.sequencerStep = .next ({ s with stopReq := false }.takeFault .aborted 0#32) := by
  rw [State.sequencerStep, if_pos hbusy, if_pos hstop]

/-- Taking the turn off the host's list changes nothing of the unit. -/
theorem step_of_pending_stop (hbusy : s.busy = true) (hstop : s.stopReq = true) (hturn : Turn s u) :
    step s = .next ({ u with stopReq := false }.takeFault .aborted 0#32) ∧ u.pc = s.pc := by
  rw [step_of_turn hturn]
  obtain ⟨-, rfl⟩ | ⟨rest, -, rfl⟩ := hturn
  · exact ⟨sequencerStep_of_stopReq hbusy hstop, rfl⟩
  · exact ⟨sequencerStep_of_stopReq hbusy hstop, rfl⟩

end

/-- Settles O10: STOP_REQ after the write is BUSY and (STOP_REQ or STOP); the boundary looks at it before it fetches. -/
theorem stopAbortsAtTheNextBoundary : Obligations.StopAbortsAtTheNextBoundary := by
  refine ⟨fun s x rest h hset hsrst => ?_, fun s x rest h hclear hsrst => ?_, fun s u hbusy hstop hturn => ?_⟩
  · rw [step_of_ctrl_write h hsrst, hset, Bool.or_true, Bool.and_true]
  · rw [step_of_ctrl_write h hsrst, hclear, Bool.or_false]
  · obtain ⟨hstep, hpc⟩ := step_of_pending_stop hbusy hstop hturn
    rw [hstep, ← hpc]
    rfl

/-! The fetch beyond CM (R341). -/

theorem runCommand_of_fetchRange {s : State} (hpc : Config.cmSize ≤ s.pc.toNat) :
    s.runCommand = .next (s.takeFault .fetchRange (s.pc.setWidth 32)) := by
  have hfetch : s.fetch = .error (.raise .fetchRange (s.pc.setWidth 32)) := if_pos hpc
  simp only [State.runCommand, hfetch, State.finish_raise]

/-- Settles O11: the fetch checks PC before it reads CM, and BC checks no target. -/
theorem fetchBeyondCommandMemoryFaults : Obligations.FetchBeyondCommandMemoryFaults := by
  refine ⟨fun s u hfetching hpc => ?_, fun s dest _ => exec_bc_completes dest (by decide)⟩
  obtain ⟨hstep, hupc, -⟩ := step_of_fetching hfetching
  rw [hstep, ← hupc, runCommand_of_fetchRange (hupc ▸ hpc)]
  rfl

/-! How a command's body may end: with a result, with a raise of a fault that is not ABORTED, or, only where some word of
SM or XM is unwritten, with a refusal. -/

/-- Every word below the memory's size has been written (10_state.md R57). -/
def Memory.Written {w : Nat} (m : Memory w) (size : Nat) : Prop := ∀ a < size, ∃ x, m.read? a = some x

/-- Every word of SM and of XM has been written. -/
def State.Written (s : State) : Prop := s.sm.Written Config.smSize ∧ s.xm.Written Config.xmSize

/-- A part of a command's body, run in s, gives a value of which P holds or stops for a reason that a command has. -/
def Ends {α : Type} (s : State) (P : α → Prop) : Except Stop α → Prop
  | .ok a => P a
  | .error (.raise c _) => c ≠ .aborted
  | .error (.refuse _) => ¬s.Written

section
variable {s : State} {α β : Type} {P : α → Prop} {Q : β → Prop}

theorem Ends.bind {x : Except Stop α} {f : α → Except Stop β} (hx : Ends s P x) (hf : ∀ a, P a → Ends s Q (f a)) :
    Ends s Q (x >>= f) := by
  cases x with
  | ok a => exact hf a hx
  | error e => cases e <;> exact hx

theorem Ends.ite {c : Prop} [Decidable c] {x y : Except Stop α} (hx : Ends s P x) (hy : Ends s P y) :
    Ends s P (if c then x else y) := by
  split
  · exact hx
  · exact hy

theorem Ends.ok {a : α} (ha : P a) : Ends s P (.ok a) := ha

theorem Ends.raise {c : FaultCode} (info : Word) (hc : c ≠ .aborted) : Ends s P (.error (.raise c info)) := hc

end

section
variable {s : State} {c : FaultCode} {size w : Nat}

/-! The checks of operands (20_memory.md R81, R82; 44_correction.md R276, R278). -/

theorem ends_checkAddr (a : Nat) (hc : c ≠ .aborted) : Ends s (fun _ => a < size) (checkAddr c size a) := by
  by_cases ha : a < size
  · rw [checkAddr_ok.2 ha]
    exact ha
  · rw [checkAddr_raise c (Nat.not_lt.1 ha)]
    exact .raise _ hc

theorem ends_checkRegion (base len : Nat) (hc : c ≠ .aborted) :
    Ends s (fun _ => Fits size base len) (checkRegion c size base len) := by
  by_cases h : Fits size base len
  · rw [checkRegion_ok.2 h]
    exact h
  · rw [checkRegion_raise c h]
    exact .raise _ hc

theorem ends_checkSm (k : RegIdx) :
    Ends s (fun _ => Fits Config.smSize (descBase (s.getN k)) (descLen (s.getN k))) (s.checkSm k) :=
  ends_checkRegion _ _ (by decide)

theorem ends_checkXm (k : RegIdx) :
    Ends s (fun _ => Fits Config.xmSize (descBase (s.getN k)) (descLen (s.getN k))) (s.checkXm k) :=
  ends_checkRegion _ _ (by decide)

theorem ends_checkVariant : Ends s (fun _ => True) s.checkVariant := by
  unfold State.checkVariant
  split
  · exact .raise _ (by decide)
  · trivial

theorem ends_checkPositions (ps : List Ext) : Ends s (fun _ => True) (checkPositions ps) := by
  induction ps with
  | nil => trivial
  | cons p ps ih => exact .ite (.raise _ (by decide)) ih

theorem ends_checkDenominators (q ps : List Ext) : Ends s (fun _ => True) (checkDenominators q ps) := by
  induction ps with
  | nil => trivial
  | cons p ps ih => exact .ite (.raise _ (by decide)) ih

/-! The reads of operands (20_memory.md R84, 10_state.md R57). -/

theorem ends_readWord {m : Memory w} (r : Nat → Refusal) {a : Nat} (hm : s.Written → m.Written size) (ha : a < size) :
    Ends s (fun _ => True) (readWord m r a) := by
  cases hx : m.read? a with
  | some x =>
    rw [readWord_ok.2 hx]
    trivial
  | none =>
    rw [readWord_of_none r hx]
    intro hs
    obtain ⟨x, hsome⟩ := hm hs a ha
    exact absurd (hx.symm.trans hsome) (by simp)

theorem readWords_succ (m : Memory w) (r : Nat → Refusal) (base len : Nat) :
    readWords m r base (len + 1) =
      readWord m r base >>= fun x => readWords m r (base + 1) len >>= fun xs => .ok (x :: xs) := by
  rw [readWords]
  cases readWord m r base with
  | error e => rfl
  | ok x => cases readWords m r (base + 1) len <;> rfl

/-- A region inside its memory is refused only where some word of the memory is unwritten. -/
theorem ends_readWords {m : Memory w} (r : Nat → Refusal) {base len : Nat} (hm : s.Written → m.Written size)
    (hfits : Fits size base len) : Ends s (fun _ => True) (readWords m r base len) := by
  induction len generalizing base with
  | zero => trivial
  | succ len ih =>
    have hin : base + (len + 1) ≤ size := hfits.resolve_left len.succ_ne_zero
    rw [readWords_succ]
    exact (ends_readWord r hm (by omega)).bind fun _ _ => (ih (.inr (by omega))).bind fun _ _ => trivial

theorem ends_smRegion {k : RegIdx} (h : Fits Config.smSize (descBase (s.getN k)) (descLen (s.getN k))) :
    Ends s (fun _ => True) (s.smRegion k) := ends_readWords _ And.left h

theorem ends_xmRegion {k : RegIdx} (h : Fits Config.xmSize (descBase (s.getN k)) (descLen (s.getN k))) :
    Ends s (fun _ => True) (s.xmRegion k) := ends_readWords _ And.right h

/-! Whole sources: the range checks, then the words. -/

theorem ends_smSource {k : RegIdx} {P : State → Prop} {f : List Sym → Except Stop State} (hf : ∀ xs, Ends s P (f xs)) :
    Ends s P (s.checkSm k >>= fun _ => s.smRegion k >>= f) :=
  (ends_checkSm k).bind fun _ h => (ends_smRegion h).bind fun xs _ => hf xs

theorem ends_xmSource {k : RegIdx} {P : State → Prop} {f : List Ext → Except Stop State} (hf : ∀ xs, Ends s P (f xs)) :
    Ends s P (s.checkXm k >>= fun _ => s.xmRegion k >>= f) :=
  (ends_checkXm k).bind fun _ h => (ends_xmRegion h).bind fun xs _ => hf xs

theorem ends_xmSources {k l : RegIdx} {P : State → Prop} {f : List Ext → List Ext → Except Stop State}
    (hf : ∀ xs ys, Ends s P (f xs ys)) :
    Ends s P (s.checkXm k >>= fun _ => s.checkXm l >>= fun _ => s.xmRegion k >>= fun xs => s.xmRegion l >>= f xs) :=
  (ends_checkXm k).bind fun _ hk => (ends_checkXm l).bind fun _ hl =>
    (ends_xmRegion hk).bind fun xs _ => (ends_xmRegion hl).bind fun ys _ => hf xs ys

/-! The writes of results. -/

theorem ends_putPoly (k : RegIdx) (xs : List Ext) (z : Bool) : Ends s (WritesData s) (s.putPoly k xs z) := by
  by_cases h : DestFits s k xs.length
  · rw [State.putPoly_ok.2 ⟨h, rfl⟩]
    exact rfl
  · rw [State.putPoly_raise z h]
    exact .raise _ (by decide)

theorem writesData_storeChecksum (rd : RegIdx) (base : Nat) (xs : List Sym) (d : Word) (m : Midstate) (k : Word)
    (r : ResultCode) :
    WritesData s (((((s.setSmList base xs).setN rd d).setMid m).setCnt k).setResult r).advance := rfl

theorem writesData_reportFix (rd : RegIdx) (r : ResultCode) (base : Nat) (xs : List Sym) (fix : Option (Nat × Sym)) :
    WritesData s ((s.applyFix base xs fix).reportFix rd r fix) := by
  cases fix <;> rfl

end

/-! How a command may end (R343, R352). -/

/-- A command's outcome in s: its data written and no control state, a fault other than ABORTED taken in s itself, or a
refusal where some word of SM or XM is unwritten. -/
def Answers (s : State) : Host.Outcome State Fault Refusal → Prop
  | .next t => WritesData s t ∨ ∃ c info, c ≠ .aborted ∧ t = s.takeFault c info
  | .fault _ => False
  | .refused _ => ¬s.Written

section
variable {s t : State}

theorem Ends.answers {r : Except Stop State} (h : Ends s (WritesData s) r) : Answers s (s.finish r) := by
  cases r with
  | ok t => exact .inl h
  | error e =>
    cases e with
    | raise c info => exact .inr ⟨c, info, h, rfl⟩
    | refuse _ => exact h

theorem answers_takeFault {c : FaultCode} (info : Word) (hc : c ≠ .aborted) :
    Answers s (.next (s.takeFault c info)) := .inr ⟨c, info, hc, rfl⟩

theorem execBc_answers (cond : BitVec 4) (dest : BitVec 16) : Answers s (execBc cond dest s) := by
  unfold execBc
  split
  · exact answers_takeFault _ (by decide)
  · split
    · exact .inl rfl
    · exact .inl rfl

theorem execSetv_answers (v : BitVec 2) : Answers s (execSetv v s) := by
  unfold execSetv
  split
  · exact .inl rfl
  · exact answers_takeFault _ (by decide)

theorem execLchk_answers (rd : RegIdx) : Answers s (execLchk rd s) := by
  unfold execLchk
  split
  · exact .inl rfl
  · exact Ends.answers ((ends_checkRegion _ _ (by decide)).bind fun _ _ =>
      .ite (.ok rfl) (.ok (writesData_storeChecksum ..)))

theorem execCorr_answers (rd ra : RegIdx) : Answers s (execCorr rd ra s) := by
  refine Ends.answers (ends_smSource fun _ => ?_)
  split
  · exact .ok rfl
  · exact .ite (.ok rfl) (.ok (writesData_reportFix ..))

/-- Every command but HALT, in every state and with any operands: exec_ended's two ends, told apart by the stop that the
body reaches, and when there is a refusal in their place. -/
theorem exec_answers {i : Instr} (hhalt : i ≠ .halt) : Answers s (exec i s) := by
  cases i with
  | halt => exact absurd rfl hhalt
  | bc cond dest => exact execBc_answers cond dest
  | setv v => exact execSetv_answers v
  | lchk rd => exact execLchk_answers rd
  | corr rd ra => exact execCorr_answers rd ra
  | nop | lib | addb | mulb | powb | negb | lie | adde | mule | powe | nege | emb | lin | lhn | naddi | lrst | lver
  | lres | selft => exact .inl rfl
  | lfb => exact .inl (completed_feed _ _).frame
  | dbnz rd dest =>
    rw [exec_dbnz]
    exact .inl rfl
  | invb | inve | prj => exact Ends.answers (.ite (.raise _ (by decide)) (.ok rfl))
  | sts | stx => exact Ends.answers ((ends_checkAddr _ (by decide)).bind fun _ _ => .ok rfl)
  | lds =>
    exact Ends.answers ((ends_checkAddr _ (by decide)).bind fun _ ha =>
      (ends_readWord _ And.left ha).bind fun _ _ => .ok rfl)
  | ldx =>
    exact Ends.answers ((ends_checkAddr _ (by decide)).bind fun _ ha =>
      (ends_readWord _ And.right ha).bind fun _ _ => .ok rfl)
  | lfm => exact Ends.answers (ends_smSource fun _ => .ok (completed_feed _ _).frame)
  | pevb => exact Ends.answers (ends_smSource fun _ => .ok rfl)
  | peve => exact Ends.answers (ends_xmSource fun _ => .ok rfl)
  | synd => exact Ends.answers (ends_putPoly _ _ _)
  | pemb => exact Ends.answers (ends_smSource fun _ => ends_putPoly _ _ _)
  | pder | loc => exact Ends.answers (ends_xmSource fun _ => ends_putPoly _ _ _)
  | pmul | pmulx => exact Ends.answers (ends_xmSources fun _ _ => ends_putPoly _ _ _)
  | prem =>
    refine Ends.answers (ends_xmSources fun _ _ => ?_)
    split
    · exact .raise _ (by decide)
    · exact ends_putPoly _ _ _
  | roots =>
    exact Ends.answers (ends_checkVariant.bind fun _ _ =>
      .ite (.raise _ (by decide)) (ends_xmSource fun _ => ends_putPoly _ _ _))
  | forney =>
    exact Ends.answers (ends_checkVariant.bind fun _ _ => (ends_checkXm _).bind fun _ ha =>
      (ends_checkXm _).bind fun _ hb => (ends_checkXm _).bind fun _ hc => (ends_xmRegion ha).bind fun _ _ =>
      (ends_xmRegion hb).bind fun _ _ => (ends_xmRegion hc).bind fun _ _ => (ends_checkPositions _).bind fun _ _ =>
      (ends_checkDenominators _ _).bind fun _ _ => ends_putPoly _ _ _)

theorem WritesData.keepsControl (h : WritesData s t) : KeepsControl s t := by
  rw [h]
  exact ⟨⟨rfl, rfl, rfl⟩, ⟨rfl, rfl, rfl, rfl, rfl, rfl⟩, rfl, rfl, rfl⟩

/-- ABORTED is the one fault numbered above 8 (R340). -/
theorem faultNumber_of_ne_aborted {c : FaultCode} (hc : c ≠ .aborted) :
    1 ≤ (faultNumber c).toNat ∧ (faultNumber c).toNat ≤ 8 := by
  revert hc
  cases c <;> decide

end

/-- Settles O53: HALT is exempt, and of the two ways another command answers only the fault stops the unit. -/
theorem faultsArePrecise : Obligations.FaultsArePrecise := by
  intro i s t hbusy h
  by_cases hhalt : i = .halt
  · subst hhalt
    cases h
    exact ⟨fun _ => .inl rfl, nofun⟩
  · have hans : Answers s (.next t) := h ▸ exec_answers hhalt
    obtain hdata | ⟨c, info, hc, rfl⟩ := hans
    · have hrun : t.busy = true := (congrArg State.busy hdata).trans hbusy
      exact ⟨fun hidle => absurd (hidle.symm.trans hrun) (by decide), fun _ => hdata.keepsControl⟩
    · obtain ⟨hpos, hle⟩ := faultNumber_of_ne_aborted hc
      exact ⟨fun _ => .inr ⟨_, info, hpos, hle, rfl⟩, nofun⟩

/-- Settles O54: a command is refused only where some word is unwritten, and never ends in a fault of the model. -/
theorem everyCommandRunsOnWrittenMemory : Obligations.EveryCommandRunsOnWrittenMemory := by
  intro i s hsm hxm
  by_cases hhalt : i = .halt
  · exact ⟨s.halt, by rw [hhalt]; rfl⟩
  · have hans := exec_answers (s := s) hhalt
    cases hout : exec i s with
    | next t => exact ⟨t, rfl⟩
    | fault f => nomatch f
    | refused r =>
      rw [hout] at hans
      exact absurd ⟨hsm, hxm⟩ hans

end Sys2Proof.Machine
end

/-! Soft reset by a CTRL write (70_reset_and_hazards.md R382). -/

section
namespace Sys2Proof.Machine

open Sys2Proof.Claims

section
variable {s : State} {x : Word} {rest : List HostEvent}

/-- SRST wins over IE and STOP: what they wrote is reset with the rest of the control state (10_state.md R47). -/
theorem State.writeCtrl_of_softReset (s : State) (h : x.getLsbD 2 = true) : s.writeCtrl x = s.softReset := if_pos h

theorem step_of_softReset_write (h : HostWrites s 0x0004#16 x rest) (hsrst : x.getLsbD 2 = true) :
    step s = .next { s with host := rest }.softReset := by
  rw [step_of_hostWrites h (by decide) (tg := .ctrl) (by decide), State.hostWrite_ctrl,
    State.writeCtrl_of_softReset _ hsrst]

theorem State.keepsRegs_softReset (s : State) : KeepsRegs s s.softReset :=
  ⟨s.getB_softReset, s.getE_softReset, s.getN_softReset⟩

theorem State.keepsMem_softReset (s : State) : KeepsMem s s.softReset :=
  ⟨fun _ => rfl, fun _ => rfl, fun _ => rfl⟩

end

/-- Settles O58: with SRST the write is a soft reset, whose frame is the register files and the memories. -/
theorem softReset : Obligations.SoftReset := by
  intro s x rest h hsrst
  have hregs : KeepsRegs s { s with host := rest }.softReset := State.keepsRegs_softReset { s with host := rest }
  have hmem : KeepsMem s { s with host := rest }.softReset := State.keepsMem_softReset { s with host := rest }
  exact ⟨_, step_of_softReset_write h hsrst, by simp [hregs, hmem]⟩

end Sys2Proof.Machine
end
